-- ==== Sys2Proof/Word.lean ====
section
/-! DEFINITION. The widths the spec fixes (00_scope.md R7): bytes, nibbles, host words, the warning set, the raw angle. -/

namespace Sys2Proof

/-- A byte: register numbers, data, trailing and CRC bytes (00_scope.md R7). -/
abbrev Byte := BitVec 8

/-- A 4-bit field: FRAME.RSV and FRAME.CMD (00_scope.md R7). -/
abbrev Nibble := BitVec 4

/-- A word of the host interface, 32 bits (10_state.md R21); also a request word and FRAME. -/
abbrev Word := BitVec 32

/-- The warning set, 3 bits (00_scope.md R7). -/
abbrev Warn := BitVec 3

/-- The raw angle, 21 bits (00_scope.md R7). -/
abbrev RawAngle := BitVec 21

end Sys2Proof
end

