-- ==== Sys2Proof/Config.lean ====
section
/-! DEFINITION. The block's parameters (00_scope.md R6), its fixed constants, and the one free value of the model. -/

namespace Sys2Proof

/-- The parameters of 00_scope.md R6 that the source leaves OPEN. An instance of the block has one value of each;
State carries them, so that a statement about every state is a statement about every choice of them (log 1). -/
structure Params where
  /-- `CMD_READ`: command code of a single-register read. -/
  cmdRead : Nibble
  /-- `CMD_WRITE`: command code of a single-register write. -/
  cmdWrite : Nibble
  /-- `CMD_BURST`: the distinct command code of the combined angle read. -/
  cmdBurst : Nibble
  /-- `CMD_AUTO_ZERO`. -/
  cmdAutoZero : Nibble
  /-- `CMD_PROG_EEPROM`. -/
  cmdProgEeprom : Nibble
  /-- `REG_ANGLE_H`: remote address of raw bits 20:13. -/
  regAngleH : Byte
  /-- `REG_ANGLE_M`: remote address of raw bits 12:5. -/
  regAngleM : Byte
  /-- `REG_ANGLE_L`: remote address of raw bits 4:0 and the warnings. -/
  regAngleL : Byte
  /-- `REG_CRC`: remote address of the CRC register. -/
  regCrc : Byte
  /-- `REG_CMD_ACK`: register field sent with AUTO-ZERO and EEPROM-program. -/
  regCmdAck : Byte
  /-- `XS_W`: width in bits of the transport status code. -/
  xsW : Nat
  deriving DecidableEq, Repr

/-- The five command codes, in the order of 30_encoding.md R76. -/
def Params.codes (p : Params) : List Nibble :=
  [p.cmdRead, p.cmdWrite, p.cmdBurst, p.cmdAutoZero, p.cmdProgEeprom]

/-- The constraints of 00_scope.md R6 ("the five command codes must differ from one another", XS_W at least 1), with
the host interface's bound on XS_W (10_state.md R21: at most 32; log 5). -/
def Params.legal (p : Params) : Bool :=
  decide p.codes.Nodup && decide (1 ≤ p.xsW) && decide (p.xsW ≤ 32)

/-- A status as it crosses the transport port, XS_W bits wide (20_memory.md R51): the bits of `st` above XS_W do not
exist there, and an XS_W-bit value is kept zero-extended to 32 bits (10_state.md R32; log 5). -/
def Params.portStatus (p : Params) (st : Word) : Word := (st.setWidth p.xsW).setWidth 32

/-- The defaults of 00_scope.md R6, which the spec's test vectors use. PRESUMED: the spec itself marks them as general
knowledge, not from its source (log 1). -/
def Params.default : Params where
  cmdRead := 0x3
  cmdWrite := 0x6
  cmdBurst := 0xA
  cmdAutoZero := 0x5
  cmdProgEeprom := 0xC
  regAngleH := 0x03
  regAngleM := 0x04
  regAngleL := 0x05
  regCrc := 0x06
  regCmdAck := 0x00
  xsW := 32

/-- `ACK`, the acknowledgement sentinel (00_scope.md R6). -/
def Config.ack : Byte := 0x55

/-- `CRC_POLY`, MSB first, x^8 implicit (00_scope.md R6). -/
def Config.crcPoly : Byte := 0x07

/-- `CRC_INIT_VALUE` (00_scope.md R6). -/
def Config.crcInitValue : Byte := 0x00

/-- FREE VALUE. The draw a host read of FRAME or CS makes while BUSY = 1 (10_state.md R40, D36): an arbitrary number for
each draw, of which nothing can be proved. It is reduced modulo the number of values to draw from (log 10). -/
opaque Config.draw : Nat → Nat

end Sys2Proof
end

