-- ==== Sys2Proof/Syntax.lean ====
section
/-! DEFINITION. The eight operations (30_encoding.md R71), one constructor each, and the assembler's lines (R81). -/

namespace Sys2Proof

/-- A request the block executes: one constructor per row of the opcode table (30_encoding.md R71, R74). Operands are
bytes, and every byte is legal (R73), so every term of this type is well formed. -/
inductive Instr where
  /-- CRC_INIT (40_crc.md R104). -/
  | crcInit
  /-- CRC_STEP d (40_crc.md R105). -/
  | crcStep (d : Byte)
  /-- READ_REG r (41_transaction.md R130). -/
  | readReg (r : Byte)
  /-- WRITE_REG r, d (41_transaction.md R131). -/
  | writeReg (r d : Byte)
  /-- ANGLE_DISCRETE (42_angle.md R153). -/
  | angleDiscrete
  /-- ANGLE_BURST (42_angle.md R154). -/
  | angleBurst
  /-- AUTO_ZERO (43_commands.md R170). -/
  | autoZero
  /-- PROG_EEPROM (43_commands.md R171). -/
  | progEeprom
  deriving DecidableEq, Repr

/-- The mnemonics of 30_encoding.md R71. -/
inductive Mnemonic where
  | crcInit | crcStep | readReg | writeReg | angleDiscrete | angleBurst | autoZero | progEeprom
  deriving DecidableEq, Repr

/-- The mnemonic of an operation. -/
def Instr.mnemonic : Instr → Mnemonic
  | .crcInit => .crcInit
  | .crcStep _ => .crcStep
  | .readReg _ => .readReg
  | .writeReg _ _ => .writeReg
  | .angleDiscrete => .angleDiscrete
  | .angleBurst => .angleBurst
  | .autoZero => .autoZero
  | .progEeprom => .progEeprom

/-- The parameter names an assembler operand may use (30_encoding.md R81, 00_scope.md R6). -/
inductive ParamName where
  | cmdRead | cmdWrite | cmdBurst | cmdAutoZero | cmdProgEeprom
  | regAngleH | regAngleM | regAngleL | regCrc | regCmdAck | xsW | ack | crcPoly | crcInitValue
  deriving DecidableEq, Repr

/-- An assembler operand: a number or a parameter name (30_encoding.md R81). -/
inductive Operand where
  | num (n : Nat)
  | param (name : ParamName)
  deriving DecidableEq, Repr

/-- The host registers by name (10_state.md R21), for RD. -/
inductive HostReg where
  | req | status | xferCode | resultData | rawAngle | frame | crcAcc
  deriving DecidableEq, Repr

/-- A line of a host program, already split into its parts (30_encoding.md R81; `.word` as in 95_test_vectors.md P1). -/
inductive Line where
  /-- A mnemonic and its operands: one request. -/
  | op (m : Mnemonic) (operands : List Operand)
  /-- `.word`: a raw REQ write of any word. -/
  | word (w : Word)
  /-- `WAIT`: poll STATUS until BUSY = 0. -/
  | wait
  /-- `RD name`: read a host register. -/
  | rd (name : HostReg)
  deriving DecidableEq, Repr

end Sys2Proof
end

