-- ==== Sys2Proof/Machine/State.lean ====
section
/-! DEFINITION. The state of the block and of its surroundings as plain data, its reset value, and how a step can stop. -/

namespace Sys2Proof.Machine

/-- FRAME, the 32-bit command frame, by its five fields (10_state.md R35, 30_encoding.md R75). -/
structure Frame where
  /-- FRAME.RSV, bits 3:0. -/
  rsv : Nibble
  /-- FRAME.CMD, bits 7:4. -/
  cmd : Nibble
  /-- FRAME.REG, bits 15:8. -/
  reg : Byte
  /-- FRAME.DATA, bits 23:16. -/
  data : Byte
  /-- FRAME.TRAIL, bits 31:24. -/
  trail : Byte
  deriving DecidableEq, Repr

/-- The layout buffer L = [L0, L1, L2, L3] (10_state.md R38, 42_angle.md R150). -/
structure Layout where
  l0 : Byte
  l1 : Byte
  l2 : Byte
  l3 : Byte
  deriving DecidableEq, Repr

/-- An operation that uses the bus, with its operands: the part of PHASE that says whose pseudocode is running. -/
inductive BusOp where
  | readReg (r : Byte)
  | writeReg (r d : Byte)
  | angleDiscrete
  | angleBurst
  | autoZero
  | progEeprom
  deriving DecidableEq, Repr

/-- The next event inside a transaction (41_transaction.md R122, line by line). -/
inductive Point where
  /-- Event 1: `CsWrite(0)`, release before composing. -/
  | release
  /-- `Compose` and `tx <- …`. -/
  | compose
  /-- Event 2: `CsWrite(1)`. -/
  | assert
  /-- Event 3: `Xfer(tx, n)`; here the block waits for the transport. -/
  | xfer
  /-- Event 4: `CsWrite(0)`, release whatever `st` is. -/
  | deassert
  /-- `if st != 0: raise Transport(st)`, else what the operation does with `rx`. -/
  | judge
  deriving DecidableEq, Repr

/-- PHASE (10_state.md R22, R38): IDLE, or the next event of the operation's pseudocode (log 15). -/
inductive Phase where
  /-- IDLE: no operation in progress. -/
  | idle
  /-- A request has been latched in RQ; request decode (30_encoding.md R72) is next. -/
  | decode
  /-- Inside a transaction of `op`. -/
  | bus (op : BusOp) (point : Point)
  /-- PostProcess is next (42_angle.md R152). -/
  | post
  deriving DecidableEq, Repr

/-- One answer of the transport (20_memory.md R51, R52): a status and the received bytes. A transfer of n bytes receives
the first n of the six; the others are no part of the answer. So every answer answers every transfer (log 4). -/
structure Answer where
  status : Word
  rx0 : Byte
  rx1 : Byte
  rx2 : Byte
  rx3 : Byte
  rx4 : Byte
  rx5 : Byte
  deriving DecidableEq, Repr

/-- A bus event (00_scope.md R11, 41_transaction.md R124). -/
inductive BusEvent where
  /-- `CsWrite(a)`, true = asserted. -/
  | csWrite (a : Bool)
  /-- `Xfer(tx, n) -> (st, rx)`, n the length of tx: an answered transfer (log 19). -/
  | xfer (tx : List Byte) (st : Word) (rx : List Byte)
  /-- Reset, which drives CS deasserted (70_reset_and_hazards.md R202, R203). -/
  | reset
  deriving DecidableEq, Repr

/-- One act of the host or the platform (log 2, log 3). -/
inductive Input where
  /-- A request line of a host program together with its WAIT (30_encoding.md R81, R82): the host writes the word to REQ
  and does nothing else until BUSY falls. -/
  | request (w : Word)
  /-- The REQ write of a host program's line alone, its WAIT not in it (30_encoding.md R81). -/
  | issue (w : Word)
  /-- A host write of `v` to the register of index `idx` (10_state.md R21). -/
  | write (idx : Nat) (v : Word)
  /-- A host read of the register of index `idx` (10_state.md R21). -/
  | read (idx : Nat)
  /-- The outside world does nothing until the block has performed one more event. -/
  | event
  /-- WAIT: the host polls STATUS until BUSY = 0 (30_encoding.md R81). -/
  | wait
  /-- Reset (70_reset_and_hazards.md R200, R203), held and released in one act (R204; log 20). -/
  | reset
  /-- The platform drives the input `cfg_crc_en` to `b` (00_scope.md R8). -/
  | pin (b : Bool)
  deriving DecidableEq, Repr

/-- What a host read of FRAME or CS can see at one moment (10_state.md R40). -/
structure View where
  frame : Frame
  cs : Bool
  deriving DecidableEq, Repr

/-- The block with its inputs and outputs. -/
structure State where
  /-- The instance's parameters (00_scope.md R6). No step changes them. -/
  params : Params
  /-- STATUS.KIND (10_state.md R29). -/
  kind : BitVec 3
  /-- STATUS.CRC_EN (R26). -/
  crcEn : Bool
  /-- STATUS.CRC_OK (R27). -/
  crcOk : Bool
  /-- STATUS.WARN (R28). -/
  warn : Warn
  /-- STATUS.CS, the chip-select output, true = asserted (R31). -/
  cs : Bool
  /-- XFER_CODE, XS_W bits, zero-extended (R32). -/
  xferCode : Word
  /-- RESULT_DATA (R33). -/
  resultData : Byte
  /-- RAW_ANGLE (R34). -/
  rawAngle : RawAngle
  /-- FRAME (R35). -/
  frame : Frame
  /-- CRC_ACC (R37). -/
  crcAcc : Byte
  /-- PHASE (R22, R38); STATUS.BUSY is its view `State.busy` (R25, R30). -/
  phase : Phase
  /-- RQ, the latched request (R38). -/
  rq : Word
  /-- L (R38). -/
  layout : Layout
  /-- TXB (R38). -/
  txb : List Byte
  /-- RXB (R38). -/
  rxb : List Byte
  /-- The status that came with RXB: `st` of 41_transaction.md R122 between `Xfer` and its test. -/
  xst : Word
  /-- IDX (R38). -/
  idx : Nat
  /-- The input `cfg_crc_en` (00_scope.md R8). -/
  cfgCrcEn : Bool
  /-- MODEL'S OWN: the acts of host and platform still to come, oldest first (log 3). -/
  inputs : List Input
  /-- MODEL'S OWN: the transport's answers still to come, oldest first; empty: it never answers again (log 4). -/
  answers : List Answer
  /-- MODEL'S OWN: the bus events so far, oldest first (log 7); a transfer is one of them once it is answered (log 19). -/
  bus : List BusEvent
  /-- MODEL'S OWN: what FRAME and CS have held since the operation in progress began (log 10). -/
  held : List View
  /-- MODEL'S OWN: how many values have been drawn (log 10). -/
  draws : Nat
  /-- MODEL'S OWN: the word that answered the last host read (log 7). -/
  rdata : Word
  deriving DecidableEq, Repr

/-- Why the machine stops with a fault. No instruction raises one (00_scope.md R15: every operation is total). -/
inductive Fault where
  /-- Raised by a host read of STATUS while KIND = 7, which the block never writes: "a model that reads KIND = 7 has found
  a fault in the model" (93_implementation_defined.md U8). Safe: the model stops (log 13). -/
  | reservedKind
  deriving DecidableEq, Repr

/-- Why the machine refuses to go on. -/
inductive Refusal where
  /-- Raised by an arm of `exec` without a meaning. Safe. No arm does. -/
  | notModelled (mnemonic : String)
  /-- Raised by a request line of a host program issued while BUSY = 1: a broken host duty, which the spec has a model
  refuse (70_reset_and_hazards.md R210, D22, U11). Safe: the model stops (log 9). -/
  | reqWhileBusy
  deriving DecidableEq, Repr

/-- The block right after reset, for an instance with parameters `p` whose input `cfg_crc_en` is `crcEn`
(10_state.md R41, 70_reset_and_hazards.md R200, R201), with nothing outside it waiting. The fields R41 gives "no value"
and the model's own are zero or empty: DESIGN CHOICE (log 6, log 7). -/
def State.powerOn (p : Params) (crcEn : Bool) : State where
  params := p
  kind := 0
  crcEn := crcEn
  crcOk := false
  warn := 0
  cs := false
  xferCode := 0
  resultData := 0
  rawAngle := 0
  frame := ⟨0, 0, 0, 0, 0⟩
  crcAcc := 0
  phase := .idle
  rq := 0
  layout := ⟨0, 0, 0, 0⟩
  txb := []
  rxb := []
  xst := 0
  idx := 0
  cfgCrcEn := crcEn
  inputs := []
  answers := []
  bus := []
  held := []
  draws := 0
  rdata := 0

/-- The machine right after reset: the default parameters of 00_scope.md R6 (PRESUMED, log 1) and `cfg_crc_en` = 0
(DESIGN CHOICE, log 12; vector S1 of 95_test_vectors.md). -/
def State.reset : State := State.powerOn Params.default false

end Sys2Proof.Machine
end

