-- ==== Sys2Proof/Machine/Operands.lean ====
section
/-! DEFINITION. Bytes in and out: FRAME as a word and as wire bytes, the bytes of a transfer, the layout buffer, the angle. -/

namespace Sys2Proof.Machine

/-! ### The frame going out -/

/-- FRAME as its 32-bit word (10_state.md R35, 30_encoding.md R75). -/
def Frame.word (f : Frame) : Word :=
  (f.trail.setWidth 32 <<< 24) ||| (f.data.setWidth 32 <<< 16) ||| (f.reg.setWidth 32 <<< 8) |||
    (f.cmd.setWidth 32 <<< 4) ||| f.rsv.setWidth 32

/-- Wire byte k of the frame, `FRAME[8k+7:8k]` (30_encoding.md R75). -/
def Frame.wire (f : Frame) (k : Nat) : Byte := f.word.extractLsb' (8 * k) 8

/-- The bytes a transfer of length n sends (41_transaction.md R122): three frame bytes, or the first two and n − 2 bytes
of filler. -/
def txBytes (n : Nat) (f : Frame) : List Byte :=
  if n = 3 then [f.wire 0, f.wire 1, f.wire 2]
  else [f.wire 0, f.wire 1] ++ List.replicate (n - 2) 0x00

/-- The data argument of `Compose` (41_transaction.md R121). -/
inductive DataArg where
  /-- FRAME.DATA keeps its value. -/
  | keep
  /-- FRAME.DATA is written. -/
  | put (d : Byte)
  deriving DecidableEq, Repr

/-- The new FRAME.DATA (41_transaction.md R121). -/
def DataArg.value (old : Byte) : DataArg → Byte
  | .keep => old
  | .put d => d

/-- What `Compose` leaves in FRAME (41_transaction.md R121): RSV 0, CMD and REG as given, DATA written or kept, TRAIL not
written. -/
def Frame.composed (f : Frame) (cmd : Nibble) (reg : Byte) (data : DataArg) : Frame where
  rsv := 0
  cmd := cmd
  reg := reg
  data := data.value f.data
  trail := f.trail

/-! ### The answer coming in -/

/-- The n received bytes of an answer (20_memory.md R51; log 4). -/
def Answer.bytes (a : Answer) (n : Nat) : List Byte :=
  [a.rx0, a.rx1, a.rx2, a.rx3, a.rx4, a.rx5].take n

/-- `rx[k]` (00_scope.md R9). -/
def byteAt (rx : List Byte) (k : Nat) : Byte := rx.getD k 0

/-- The layout with byte k replaced (`L[k] <- b`, 42_angle.md R153). -/
def Layout.put (l : Layout) (k : Nat) (b : Byte) : Layout :=
  match k with
  | 0 => { l with l0 := b }
  | 1 => { l with l1 := b }
  | 2 => { l with l2 := b }
  | 3 => { l with l3 := b }
  | _ => l

/-- The layout after a combined transaction (30_encoding.md R79, 42_angle.md R154): the two echo bytes dropped, L3 only
when CRC_EN = 1. -/
def Layout.ofBurst (l : Layout) (crcEn : Bool) (rx : List Byte) : Layout where
  l0 := byteAt rx 2
  l1 := byteAt rx 3
  l2 := byteAt rx 4
  l3 := if crcEn then byteAt rx 5 else l.l3

/-- `Assemble(L0, L1, L2) = (zext_21(L0) << 13) | (zext_21(L1) << 5) | zext_21(L2 >> 3)` (42_angle.md R151). -/
def assemble (l0 l1 l2 : Byte) : RawAngle :=
  (l0.setWidth 21 <<< 13) ||| (l1.setWidth 21 <<< 5) ||| (l2 >>> 3).setWidth 21

/-- `Warn(L2) = L2[2:0]` (42_angle.md R151). -/
def warnOf (l2 : Byte) : Warn := l2.extractLsb' 0 3

/-! ### The parts of the angle operations that depend on CRC_EN -/

/-- The registers ANGLE_DISCRETE reads, in order (42_angle.md R153). -/
def discreteRegs (p : Params) (crcEn : Bool) : List Byte :=
  [p.regAngleH, p.regAngleM, p.regAngleL] ++ (if crcEn then [p.regCrc] else [])

/-- The length of a combined transaction (42_angle.md R154). -/
def burstLength (crcEn : Bool) : Nat := if crcEn then 6 else 5

end Sys2Proof.Machine
end

