-- ==== Sys2Proof/Machine/Flags.lean ====
section
/-! DEFINITION. The result codes, BUSY, the validator, and STATUS as the host reads it. -/

namespace Sys2Proof.Machine

/-- The result codes by name (60_exceptions.md R180). `handleNull` and `pointerNull` are never produced (R181), and code 7
is reserved. -/
inductive Kind where
  | ok
  | error
  | handleNull
  | pointerNull
  | invalidArgument
  | crcCheckFailed
  | transport
  deriving DecidableEq, Repr

/-- The number written to STATUS.KIND (60_exceptions.md R180). -/
def Kind.code : Kind → BitVec 3
  | .ok => 0
  | .error => 1
  | .handleNull => 2
  | .pointerNull => 3
  | .invalidArgument => 4
  | .crcCheckFailed => 5
  | .transport => 6

/-- STATUS.BUSY: "1 while an operation is in progress (PHASE != IDLE)" (10_state.md R25). -/
def State.busy (s : State) : Bool :=
  match s.phase with
  | .idle => false
  | .decode => true
  | .bus _ _ => true
  | .post => true

/-- `CrcCheck(L0, L1, L2, L3)` (40_crc.md R106). -/
def crcCheck (l : Layout) : Bool := crc8 [l.l0, l.l1, l.l2] == l.l3

/-- STATUS as a host read returns it (10_state.md R25), with the value the read sees for CS. -/
def State.statusWord (s : State) (cs : Bool) : Word :=
  ((BitVec.ofBool cs).setWidth 32 <<< 9) ||| (s.warn.setWidth 32 <<< 6) |||
    ((BitVec.ofBool s.crcOk).setWidth 32 <<< 5) ||| ((BitVec.ofBool s.crcEn).setWidth 32 <<< 4) |||
    ((BitVec.ofBool s.busy).setWidth 32 <<< 3) ||| s.kind.setWidth 32

end Sys2Proof.Machine
end

