-- ==== Sys2Proof/Machine/Ops.lean ====
section
/-! DEFINITION. The shared operations: bus events, the frame builder, the transaction sequencer, and the two ways an
operation ends. -/

namespace Sys2Proof.Machine

/-! ### Bus events and the frame builder -/

/-- What FRAME and CS hold now (10_state.md R40). -/
def State.view (s : State) : View := ⟨s.frame, s.cs⟩

/-- Adds what FRAME and CS hold now to what they have held in this operation (log 10). -/
def noteView (s : State) : State := { s with held := s.held ++ [s.view] }

/-- `CsWrite(a)` (00_scope.md R11): one event, even when the line already holds `a`. -/
def csWrite (a : Bool) (s : State) : State :=
  noteView { s with cs := a, bus := s.bus ++ [.csWrite a] }

/-- `Compose(cmd, reg, data)` (41_transaction.md R121): no bus event. -/
def compose (cmd : Nibble) (reg : Byte) (data : DataArg) (s : State) : State :=
  noteView { s with frame := s.frame.composed cmd reg data }

/-- `tx <- …` for a transfer of length n (41_transaction.md R122). -/
def loadTx (n : Nat) (s : State) : State := { s with txb := txBytes n s.frame }

/-- The transport's answer `a` to the `Xfer` of TXB (00_scope.md R11): the status and the received bytes are latched, and
`rest` are the answers still to come. DESIGN CHOICE: the `xfer` event is recorded here, at the answer, and not when the
transfer is offered (log 19). -/
def takeAnswer (a : Answer) (rest : List Answer) (s : State) : State :=
  let st := s.params.portStatus a.status
  let rx := a.bytes s.txb.length
  { s with xst := st, rxb := rx, answers := rest, bus := s.bus ++ [.xfer s.txb st rx] }

/-! ### The end of an operation: the block's exceptions (60_exceptions.md) -/

/-- `PHASE <- IDLE; STATUS.BUSY <- 0` (60_exceptions.md R182, R183). -/
def finish (s : State) : State := { s with phase := .idle, held := [] }

/-- `complete()` (60_exceptions.md R182). -/
def complete (s : State) : State := finish { s with kind := Kind.ok.code, xferCode := 0 }

/-- `raise K(info)` (60_exceptions.md R183), `st` the info of a Transport failure. -/
def raise (k : Kind) (st : Word) (s : State) : State :=
  finish { s with kind := k.code, xferCode := if k = .transport then st else 0 }

/-! ### The chip-select transaction sequencer (41_transaction.md R122) -/

/-- How a transaction leaves the operation that asked for it. -/
inductive Bracket where
  /-- It succeeded: `return rx`, and the operation goes on from the state. -/
  | received (rx : List Byte) (s : State)
  /-- The operation goes no further: it raised Transport (R125), or the transport does not answer and the block waits
  (R126). -/
  | stopped (s : State)
  deriving DecidableEq, Repr

/-- The block with the transfer offered: events 1 and 2 of `Transaction` done, `Xfer(tx, n)` next (R122). -/
def offered (op : BusOp) (cmd : Nibble) (reg : Byte) (data : DataArg) (n : Nat) (s : State) : State :=
  { csWrite true (loadTx n (compose cmd reg data (csWrite false s))) with phase := .bus op .xfer }

/-- `Transaction(cmd, reg, data, n)` (R122), for operation `op`. Without an answer the block stays at the `Xfer` with CS
asserted: a hang is kept as a hang (R126). -/
def transaction (op : BusOp) (cmd : Nibble) (reg : Byte) (data : DataArg) (n : Nat) (s : State) : Bracket :=
  let o := offered op cmd reg data n s
  match o.answers with
  | [] => .stopped o
  | a :: rest =>
    let d := csWrite false (takeAnswer a rest o)
    if d.xst ≠ 0 then .stopped (raise .transport d.xst d) else .received d.rxb d

/-- The rest of an operation after its transactions. -/
def Bracket.andThen (b : Bracket) (k : List Byte → State → State) : Host.Outcome State Fault Refusal :=
  match b with
  | .received rx s => .next (k rx s)
  | .stopped s => .next s

/-! ### What the operations do with what they received -/

/-- The last line of READ_REG (41_transaction.md R130). -/
def keepResult (rx : List Byte) (s : State) : State := complete { s with resultData := byteAt rx 2 }

/-- `AckCheck(rx)` (43_commands.md R172). -/
def ackCheck (rx : List Byte) (s : State) : State :=
  if byteAt rx 2 = Config.ack then complete s else raise .error 0 s

/-- Steps 2 and 3 of PostProcess (42_angle.md R152): WARN and RAW_ANGLE from the layout. -/
def publish (s : State) : State :=
  { s with warn := warnOf s.layout.l2, rawAngle := assemble s.layout.l0 s.layout.l1 s.layout.l2 }

/-- `PostProcess()` (42_angle.md R152; 40_crc.md R107). -/
def postProcess (s : State) : State :=
  if s.crcEn then
    if crcCheck s.layout then complete (publish { s with crcOk := true })
    else raise .crcCheckFailed 0 { s with crcOk := false }
  else complete (publish s)

/-- `L[k] <- rx[2]` of a sub-read (42_angle.md R153). -/
def storeLayout (k : Nat) (rx : List Byte) (s : State) : State :=
  { s with layout := s.layout.put k (byteAt rx 2) }

/-- The layout of a combined transaction (42_angle.md R154). -/
def storeBurst (rx : List Byte) (s : State) : State :=
  { s with layout := s.layout.ofBurst s.crcEn rx }

/-- The loop of ANGLE_DISCRETE from sub-read k on (42_angle.md R153): one READ transaction for each register left. -/
def subReads : Nat → List Byte → State → Bracket
  | _, [], s => .received [] s
  | k, reg :: regs, s =>
    match transaction .angleDiscrete s.params.cmdRead reg .keep 3 { s with idx := k } with
    | .stopped t => .stopped t
    | .received rx t => subReads (k + 1) regs (storeLayout k rx t)

end Sys2Proof.Machine
end

