-- ==== Sys2Proof/Machine/Angle.lean ====
section
/-! DEFINITION. The angle operations: ANGLE_DISCRETE, ANGLE_BURST (42_angle.md). -/

namespace Sys2Proof.Machine

/-- ANGLE_DISCRETE (42_angle.md R153): three or four sub-reads, then PostProcess. -/
def execAngleDiscrete (s : State) : Host.Outcome State Fault Refusal :=
  (subReads 0 (discreteRegs s.params s.crcEn) s).andThen fun _ t => postProcess t

/-- ANGLE_BURST (42_angle.md R154): one transaction of five or six bytes, then PostProcess. -/
def execAngleBurst (s : State) : Host.Outcome State Fault Refusal :=
  (transaction .angleBurst s.params.cmdBurst s.params.regAngleH .keep (burstLength s.crcEn) s).andThen
    fun rx t => postProcess (storeBurst rx t)

end Sys2Proof.Machine
end

