-- ==== Sys2Proof/Machine/Command.lean ====
section
/-! DEFINITION. The acknowledged commands: AUTO_ZERO, PROG_EEPROM (43_commands.md). -/

namespace Sys2Proof.Machine

/-- AUTO_ZERO (43_commands.md R170). -/
def execAutoZero (s : State) : Host.Outcome State Fault Refusal :=
  (transaction .autoZero s.params.cmdAutoZero s.params.regCmdAck (.put 0x00) 3 s).andThen ackCheck

/-- PROG_EEPROM (43_commands.md R171). -/
def execProgEeprom (s : State) : Host.Outcome State Fault Refusal :=
  (transaction .progEeprom s.params.cmdProgEeprom s.params.regCmdAck (.put 0x00) 3 s).andThen ackCheck

end Sys2Proof.Machine
end

