-- ==== Sys2Proof/Machine/Crc.lean ====
section
/-! DEFINITION. The operations on the CRC engine: CRC_INIT, CRC_STEP (40_crc.md). -/

namespace Sys2Proof.Machine

/-- CRC_INIT (40_crc.md R104). -/
def execCrcInit (s : State) : Host.Outcome State Fault Refusal :=
  .next (complete { s with crcAcc := Config.crcInitValue })

/-- CRC_STEP d (40_crc.md R105). -/
def execCrcStep (d : Byte) (s : State) : Host.Outcome State Fault Refusal :=
  .next (complete { s with crcAcc := crcNext s.crcAcc d })

end Sys2Proof.Machine
end

