-- ==== Sys2Proof/Machine/Register.lean ====
section
/-! DEFINITION. The register operations: READ_REG, WRITE_REG (41_transaction.md). -/

namespace Sys2Proof.Machine

/-- READ_REG r (41_transaction.md R130). -/
def execReadReg (r : Byte) (s : State) : Host.Outcome State Fault Refusal :=
  (transaction (.readReg r) s.params.cmdRead r .keep 3 s).andThen keepResult

/-- WRITE_REG r, d (41_transaction.md R131): the received bytes are not consulted. -/
def execWriteReg (r d : Byte) (s : State) : Host.Outcome State Fault Refusal :=
  (transaction (.writeReg r d) s.params.cmdWrite r (.put d) 3 s).andThen fun _ t => complete t

end Sys2Proof.Machine
end

