-- ==== Sys2Proof/Machine/Dispatch.lean ====
section
/-! DEFINITION. The meaning of each operation, one arm per row of the opcode table. -/

namespace Sys2Proof.Machine

/-- A request run whole, from the state in which it has been latched to its end event, or to the `Xfer` at which the
transport does not answer. -/
def exec (i : Instr) (s : State) : Host.Outcome State Fault Refusal :=
  match i with
  | .crcInit => Sys2Proof.Machine.execCrcInit s
  | .crcStep d => Sys2Proof.Machine.execCrcStep d s
  | .readReg r => Sys2Proof.Machine.execReadReg r s
  | .writeReg r d => Sys2Proof.Machine.execWriteReg r d s
  | .angleDiscrete => Sys2Proof.Machine.execAngleDiscrete s
  | .angleBurst => Sys2Proof.Machine.execAngleBurst s
  | .autoZero => Sys2Proof.Machine.execAutoZero s
  | .progEeprom => Sys2Proof.Machine.execProgEeprom s

end Sys2Proof.Machine
end

