-- ==== Sys2Proof/Decode.lean ====
section
/-! DEFINITION. Request decode (30_encoding.md R70 to R74), total on every word; then the encoder, the opcode table's rows
and `decodeTableWord`. -/

namespace Sys2Proof

/-! ### The fields of a request word (R70) -/

/-- OP, bits 3:0. -/
def opField (w : Word) : Nibble := w.extractLsb' 0 4

/-- MBZ0, bits 7:4. -/
def mbz0Field (w : Word) : Nibble := w.extractLsb' 4 4

/-- REG, bits 15:8 (R73: no extension, scaling or shift). -/
def regField (w : Word) : Byte := w.extractLsb' 8 8

/-- DATA, bits 23:16 (R73). -/
def dataField (w : Word) : Byte := w.extractLsb' 16 8

/-- MBZ1, bits 31:24. -/
def mbz1Field (w : Word) : Byte := w.extractLsb' 24 8

/-! ### Decode (R72) -/

/-- Why a word is an invalid request (R72). -/
inductive Reject where
  /-- A nonzero bit in MBZ0. -/
  | mbz0NotZero
  /-- A nonzero bit in MBZ1. -/
  | mbz1NotZero
  /-- OP is 0x0 or 0x9 to 0xF. -/
  | opUnassigned
  /-- REG is nonzero and the operation takes none. -/
  | regNotZero
  /-- DATA is nonzero and the operation takes none. -/
  | dataNotZero
  deriving DecidableEq, Repr

/-- What a request word is. -/
inductive Decoded where
  | instr (i : Instr)
  | invalid (why : Reject)
  deriving DecidableEq, Repr

/-- An operation without operands: REG and DATA must be zero (R71, R72). -/
def noOperands (i : Instr) (r d : Byte) : Decoded :=
  if r ≠ 0 then .invalid .regNotZero
  else if d ≠ 0 then .invalid .dataNotZero
  else .instr i

/-- CRC_STEP: REG must be zero (R71, R72). -/
def dataOperand (r d : Byte) : Decoded :=
  if r ≠ 0 then .invalid .regNotZero else .instr (.crcStep d)

/-- READ_REG: DATA must be zero (R71, R72). -/
def regOperand (r d : Byte) : Decoded :=
  if d ≠ 0 then .invalid .dataNotZero else .instr (.readReg r)

/-- The `case op of` of R72's pseudocode, on the word's OP, REG and DATA. -/
def decodeOp (op : Nibble) (r d : Byte) : Decoded :=
  match op with
  | 0x1#4 => noOperands .crcInit r d
  | 0x2#4 => dataOperand r d
  | 0x3#4 => regOperand r d
  | 0x4#4 => .instr (.writeReg r d)
  | 0x5#4 => noOperands .angleDiscrete r d
  | 0x6#4 => noOperands .angleBurst r d
  | 0x7#4 => noOperands .autoZero r d
  | 0x8#4 => noOperands .progEeprom r d
  | _ => .invalid .opUnassigned

/-- Request decode, R72's pseudocode: the must-be-zero fields first, then OP and its operands. -/
def decode (w : Word) : Decoded :=
  if mbz0Field w ≠ 0 then .invalid .mbz0NotZero
  else if mbz1Field w ≠ 0 then .invalid .mbz1NotZero
  else decodeOp (opField w) (regField w) (dataField w)

/-! ### Encode -/

/-- A request word from its five fields (R70). -/
def requestWord (op : Nibble) (r d : Byte) : Word :=
  (d.setWidth 32 <<< 16) ||| (r.setWidth 32 <<< 8) ||| op.setWidth 32

/-- The word of an operation (R71, R74). -/
def encode : Instr → Word
  | .crcInit => requestWord 0x1 0 0
  | .crcStep d => requestWord 0x2 0 d
  | .readReg r => requestWord 0x3 r 0
  | .writeReg r d => requestWord 0x4 r d
  | .angleDiscrete => requestWord 0x5 0 0
  | .angleBurst => requestWord 0x6 0 0
  | .autoZero => requestWord 0x7 0 0
  | .progEeprom => requestWord 0x8 0 0

/-! ### The table's rows (R74) -/

/-- A row of the table of R74. -/
structure Row where
  mnemonic : Mnemonic
  matchWord : Word
  mask : Word
  deriving DecidableEq, Repr

/-- The eight rows of R74, as the spec gives them. -/
def rows : List Row :=
  [⟨.crcInit, 0x00000001, 0xFFFFFFFF⟩,
   ⟨.crcStep, 0x00000002, 0xFF00FFFF⟩,
   ⟨.readReg, 0x00000003, 0xFFFF00FF⟩,
   ⟨.writeReg, 0x00000004, 0xFF0000FF⟩,
   ⟨.angleDiscrete, 0x00000005, 0xFFFFFFFF⟩,
   ⟨.angleBurst, 0x00000006, 0xFFFFFFFF⟩,
   ⟨.autoZero, 0x00000007, 0xFFFFFFFF⟩,
   ⟨.progEeprom, 0x00000008, 0xFFFFFFFF⟩]

/-- A word matches a row (R74). -/
def Row.hits (r : Row) (w : Word) : Bool := w &&& r.mask == r.matchWord

/-! ### The host's numbering -/

/-- The operation read from the table word whose low `nbits` bits are `w` (every row has 32). -/
def decodeTableWord (nbits w : Nat) : Option Instr :=
  match decode (BitVec.ofNat 32 (w % 2 ^ nbits)) with
  | .instr i => some i
  | .invalid _ => none

end Sys2Proof
end

