-- ==== Sys2Proof/Machine/Sequencer.lean ====
section
/-! DEFINITION. The sequencer event by event (10_state.md R22): one advance performs the event that PHASE names. -/

namespace Sys2Proof.Machine

/-- What an operation gives `Transaction` (30_encoding.md R77). -/
structure Request where
  cmd : Nibble
  reg : Byte
  data : DataArg
  n : Nat
  deriving DecidableEq, Repr

/-- The table of 30_encoding.md R77. -/
def BusOp.transfer (op : BusOp) (s : State) : Request :=
  match op with
  | .readReg r => ⟨s.params.cmdRead, r, .keep, 3⟩
  | .writeReg r d => ⟨s.params.cmdWrite, r, .put d, 3⟩
  | .angleDiscrete => ⟨s.params.cmdRead, (discreteRegs s.params s.crcEn).getD s.idx 0, .keep, 3⟩
  | .angleBurst => ⟨s.params.cmdBurst, s.params.regAngleH, .keep, burstLength s.crcEn⟩
  | .autoZero => ⟨s.params.cmdAutoZero, s.params.regCmdAck, .put 0x00, 3⟩
  | .progEeprom => ⟨s.params.cmdProgEeprom, s.params.regCmdAck, .put 0x00, 3⟩

/-- A sub-read of ANGLE_DISCRETE has been received: the next one, or PostProcess after the last (42_angle.md R153). -/
def nextSubRead (s : State) : State :=
  let t := storeLayout s.idx s.rxb s
  if s.idx + 1 < (discreteRegs s.params s.crcEn).length then
    { t with idx := s.idx + 1, phase := .bus .angleDiscrete .release }
  else { t with phase := .post }

/-- What an operation does with the received bytes of its transaction. -/
def BusOp.absorb (op : BusOp) (s : State) : State :=
  match op with
  | .readReg _ => keepResult s.rxb s
  | .writeReg _ _ => complete s
  | .angleDiscrete => nextSubRead s
  | .angleBurst => { storeBurst s.rxb s with phase := .post }
  | .autoZero => ackCheck s.rxb s
  | .progEeprom => ackCheck s.rxb s

/-- The event at a point of a transaction of `op` (41_transaction.md R122). At `xfer` the block waits: without an answer
nothing changes (R126). -/
def busEvent (op : BusOp) (point : Point) (s : State) : State :=
  match point with
  | .release => { csWrite false s with phase := .bus op .compose }
  | .compose =>
    let q := op.transfer s
    { loadTx q.n (compose q.cmd q.reg q.data s) with phase := .bus op .assert }
  | .assert => { csWrite true s with phase := .bus op .xfer }
  | .xfer =>
    match s.answers with
    | [] => s
    | a :: rest => { takeAnswer a rest s with phase := .bus op .deassert }
  | .deassert => { csWrite false s with phase := .bus op .judge }
  | .judge => if s.xst ≠ 0 then raise .transport s.xst s else op.absorb s

/-- The first event of a decoded request: the CRC operations end at once, the others begin their first transaction. -/
def beginOp (i : Instr) (s : State) : State :=
  match i with
  | .crcInit => complete { s with crcAcc := Config.crcInitValue }
  | .crcStep d => complete { s with crcAcc := crcNext s.crcAcc d }
  | .readReg r => { s with phase := .bus (.readReg r) .release }
  | .writeReg r d => { s with phase := .bus (.writeReg r d) .release }
  | .angleDiscrete => { s with idx := 0, phase := .bus .angleDiscrete .release }
  | .angleBurst => { s with phase := .bus .angleBurst .release }
  | .autoZero => { s with phase := .bus .autoZero .release }
  | .progEeprom => { s with phase := .bus .progEeprom .release }

/-- Request decode on RQ (30_encoding.md R72): an invalid request ends at once in InvalidArgument. -/
def decodeEvent (s : State) : State :=
  match decode s.rq with
  | .instr i => beginOp i s
  | .invalid _ => raise .invalidArgument 0 s

/-- One event of the operation in progress; an idle block stays as it is (60_exceptions.md R196). -/
def advance (s : State) : State :=
  match s.phase with
  | .idle => s
  | .decode => decodeEvent s
  | .bus op point => busEvent op point s
  | .post => postProcess s

/-- `k` events. -/
def advances : Nat → State → State
  | 0, s => s
  | k + 1, s => advances k (advance s)

/-- More events than any operation has: request decode, four transactions of six points each, and PostProcess are 26. -/
def eventBound : Nat := 32

/-- The accepted REQ write (10_state.md R24): the word is latched in RQ and the operation begins. -/
def latch (w : Word) (s : State) : State :=
  { s with rq := w, phase := .decode, held := [s.view] }

end Sys2Proof.Machine
end

