-- ==== Sys2Proof/WellFormed.lean ====
section
/-! DEFINITION. The assembler's checks (30_encoding.md R81): operand count and operand range. A term of `Instr` needs no
check: its operands are bytes and every byte is legal (R73, D35). -/

namespace Sys2Proof

/-- The value a parameter name stands for (00_scope.md R6). -/
def ParamName.value (p : Params) : ParamName → Nat
  | .cmdRead => p.cmdRead.toNat
  | .cmdWrite => p.cmdWrite.toNat
  | .cmdBurst => p.cmdBurst.toNat
  | .cmdAutoZero => p.cmdAutoZero.toNat
  | .cmdProgEeprom => p.cmdProgEeprom.toNat
  | .regAngleH => p.regAngleH.toNat
  | .regAngleM => p.regAngleM.toNat
  | .regAngleL => p.regAngleL.toNat
  | .regCrc => p.regCrc.toNat
  | .regCmdAck => p.regCmdAck.toNat
  | .xsW => p.xsW
  | .ack => Config.ack.toNat
  | .crcPoly => Config.crcPoly.toNat
  | .crcInitValue => Config.crcInitValue.toNat

/-- The value of an operand. -/
def Operand.value (p : Params) : Operand → Nat
  | .num n => n
  | .param name => name.value p

/-- How many operands a mnemonic takes (30_encoding.md R81). -/
def Mnemonic.arity : Mnemonic → Nat
  | .crcInit => 0
  | .crcStep => 1
  | .readReg => 1
  | .writeReg => 2
  | .angleDiscrete => 0
  | .angleBurst => 0
  | .autoZero => 0
  | .progEeprom => 0

/-- "An operation with the wrong operand count is an assembly error" (30_encoding.md R81). -/
def Line.countOk : Line → Bool
  | .op m operands => operands.length == m.arity
  | .word _ => true
  | .wait => true
  | .rd _ => true

/-- "An operand out of 0..255 is an assembly error" (30_encoding.md R81). -/
def Line.rangeOk (p : Params) : Line → Bool
  | .op _ operands => operands.all fun o => decide (o.value p ≤ 255)
  | .word _ => true
  | .wait => true
  | .rd _ => true

/-- A line the assembler accepts. -/
def Line.wellFormed (p : Params) (l : Line) : Bool := l.countOk && l.rangeOk p

/-- The request of a mnemonic and its operand values; none where the operand count is wrong. -/
def Mnemonic.request : Mnemonic → List Byte → Option Instr
  | .crcInit, [] => some .crcInit
  | .crcStep, [d] => some (.crcStep d)
  | .readReg, [r] => some (.readReg r)
  | .writeReg, [r, d] => some (.writeReg r d)
  | .angleDiscrete, [] => some .angleDiscrete
  | .angleBurst, [] => some .angleBurst
  | .autoZero, [] => some .autoZero
  | .progEeprom, [] => some .progEeprom
  | _, _ => none

/-- The request a mnemonic line stands for; none for an assembly error and for a line that is no request. -/
def Line.request (p : Params) : Line → Option Instr
  | .op m operands =>
    if (Line.op m operands).wellFormed p then
      m.request (operands.map fun o => BitVec.ofNat 8 (o.value p))
    else none
  | .word _ => none
  | .wait => none
  | .rd _ => none

end Sys2Proof
end

