-- ==== Sys2Proof/Machine/Interface.lean ====
section
/-! DEFINITION. What host and platform can do to the block: register accesses, request lines, WAIT, reset, the pin. -/

namespace Sys2Proof.Machine

/-! ### Host writes (10_state.md R23, R24) -/

/-- A host write of `v` to the register of index `idx`: to REQ it starts an operation when BUSY = 0 and is ignored when
BUSY = 1 (R24, 60_exceptions.md R197); to any other index it is ignored (R23). -/
def hostWrite (idx : Nat) (v : Word) (s : State) : State :=
  if idx = 0 then (if s.busy then s else latch v s) else s

/-! ### Host reads (10_state.md R21, R23, R40) -/

/-- What FRAME and CS will hold in the rest of the operation in progress, over at most `k` events. DESIGN CHOICE: the
operation as it runs uncut, also where a reset still among the acts will cut it (log 18). -/
def futureViews : Nat → State → List View
  | 0, _ => []
  | k + 1, s => if s.busy then (advance s).view :: futureViews k (advance s) else []

/-- Every value FRAME and CS hold at some point during the operation in progress (R40), if no reset cuts it (log 18). -/
def State.views (s : State) : List View := s.held ++ [s.view] ++ futureViews eventBound s

/-- What a host read sees of FRAME and CS: what they hold, or a draw while BUSY = 1 (R40, D36; log 10). -/
def State.seen (s : State) : View :=
  if s.busy then s.views.getD (Config.draw s.draws % s.views.length) s.view else s.view

/-- The state after a read of FRAME or STATUS: a draw is used up while BUSY = 1. -/
def spendDraw (s : State) : State := if s.busy then { s with draws := s.draws + 1 } else s

/-- The word a host read of index `idx` returns (10_state.md R21, R23): narrower registers zero-extended, REQ and
unassigned indices 0. -/
def State.readWord (s : State) (idx : Nat) : Word :=
  match idx with
  | 1 => s.statusWord s.seen.cs
  | 2 => s.xferCode
  | 3 => s.resultData.setWidth 32
  | 4 => s.rawAngle.setWidth 32
  | 5 => s.seen.frame.word
  | 6 => s.crcAcc.setWidth 32
  | _ => 0

/-- The indices whose read draws while BUSY = 1 (10_state.md R40: FRAME and CS). -/
def drawsFrom (idx : Nat) : Bool :=
  match idx with
  | 1 => true
  | 5 => true
  | _ => false

/-- A host read (10_state.md R23: no side effect on the block). Reading STATUS with KIND = 7 is a fault of the model
(93_implementation_defined.md U8; log 13). -/
def hostRead (idx : Nat) (s : State) : Host.Outcome State Fault Refusal :=
  if idx = 1 ∧ s.kind = 7 then .fault .reservedKind
  else
    let t := if drawsFrom idx then spendDraw s else s
    .next { t with rdata := s.readWord idx }

/-! ### Request lines and WAIT (30_encoding.md R81, R82) -/

/-- An accepted request, run whole: latch, decode, then the operation's meaning or InvalidArgument (30_encoding.md R72). -/
def runRequest (w : Word) (s : State) : Host.Outcome State Fault Refusal :=
  match decode w with
  | .instr i => exec i (latch w s)
  | .invalid _ => .next (raise .invalidArgument 0 (latch w s))

/-- A request line of a host program: refused while BUSY = 1, a broken host duty (70_reset_and_hazards.md R210; log 9). -/
def requestLine (w : Word) (s : State) : Host.Outcome State Fault Refusal :=
  if s.busy then .refused .reqWhileBusy else runRequest w s

/-- The REQ write of a program's line: the event-by-event start of the operation, refused like a request line (R210). -/
def issueLine (w : Word) (s : State) : Host.Outcome State Fault Refusal :=
  if s.busy then .refused .reqWhileBusy else .next (latch w s)

/-- WAIT: while BUSY = 1 the block performs an event and the host goes on polling; else the host goes on to `rest`. -/
def waitLine (rest : List Input) (s : State) : State :=
  if s.busy then advance s else { s with inputs := rest }

/-! ### Reset and the pin (70_reset_and_hazards.md R200 to R203) -/

/-- Whether the transport has been offered a transfer and has not answered. -/
def State.inFlight (s : State) : Bool :=
  match s.phase with
  | .bus _ .xfer => true
  | _ => false

/-- Reset (R200, R203), at any moment: every register takes its reset value, CRC_EN is sampled from `cfg_crc_en` (R201),
the answer of a transfer in flight is discarded. What stands outside the block stays (log 11). DESIGN CHOICE: the transfer
in flight leaves no `xfer` in `bus`, and TXB, which held its bytes, is cleared with the rest (log 19). DESIGN CHOICE: reset is one act without duration, so nothing falls
inside a held reset (log 20). -/
def applyReset (s : State) : State :=
  { State.powerOn s.params s.cfgCrcEn with
    inputs := s.inputs
    answers := if s.inFlight then s.answers.tail else s.answers
    bus := s.bus ++ [.reset]
    draws := s.draws
    rdata := s.rdata }

/-! ### The next act -/

/-- One step: the next act of host or platform; with none left, one event of the block (log 16). -/
def act (s : State) : Host.Outcome State Fault Refusal :=
  match s.inputs with
  | [] => .next (advance s)
  | .request w :: rest => requestLine w { s with inputs := rest }
  | .issue w :: rest => issueLine w { s with inputs := rest }
  | .write idx v :: rest => .next (hostWrite idx v { s with inputs := rest })
  | .read idx :: rest => hostRead idx { s with inputs := rest }
  | .event :: rest => .next (advance { s with inputs := rest })
  | .wait :: rest => .next (waitLine rest s)
  | .reset :: rest => .next (applyReset { s with inputs := rest })
  | .pin b :: rest => .next { s with inputs := rest, cfgCrcEn := b }

/-! ### Host programs (30_encoding.md R81, R82) -/

/-- The index of a host register (10_state.md R21). -/
def HostReg.index : HostReg → Nat
  | .req => 0
  | .status => 1
  | .xferCode => 2
  | .resultData => 3
  | .rawAngle => 4
  | .frame => 5
  | .crcAcc => 6

/-- What a line makes the host do; none for an assembly error (R81). A mnemonic line and `.word`
are a program's writes of REQ. -/
def assemble1 (p : Params) (l : Line) : Option Input :=
  match l with
  | .op m operands => (Line.request p (.op m operands)).map fun i => .issue (encode i)
  | .word w => some (.issue w)
  | .wait => some .wait
  | .rd name => some (.read (HostReg.index name))

/-- A program's acts; none where a line is an assembly error. -/
def assembleLines (p : Params) : List Line → Option (List Input)
  | [] => some []
  | l :: ls =>
    match assemble1 p l, assembleLines p ls with
    | some i, some is => some (i :: is)
    | _, _ => none

/-- `read_register(reg)` (R82). -/
def hostReadRegister (r : Byte) : List Input := [.issue (encode (.readReg r)), .wait, .read 3]

/-- `write_register(reg, data)` (R82). -/
def hostWriteRegister (r d : Byte) : List Input := [.issue (encode (.writeReg r d)), .wait]

/-- `get_raw_angle`, discrete (R82). -/
def hostRawAngleDiscrete : List Input := [.issue (encode .angleDiscrete), .wait, .read 4, .read 1]

/-- `get_raw_angle`, combined (R82). -/
def hostRawAngleBurst : List Input := [.issue (encode .angleBurst), .wait, .read 4, .read 1]

/-- `auto_zero_angle()` (R82). -/
def hostAutoZero : List Input := [.issue (encode .autoZero), .wait]

/-- `program_eeprom()` (R82). -/
def hostProgramEeprom : List Input := [.issue (encode .progEeprom), .wait]

end Sys2Proof.Machine
end

