-- ==== Sys2Proof/Machine/Step.lean ====
section
/-! DEFINITION. The step, and where it fetches its next request. -/

namespace Sys2Proof.Machine

/-- One step of the machine: the next act of the outside world, or one event of the block (Interface.lean, `act`). -/
def step (s : State) : Host.Outcome State Fault Refusal := act s

/-- `s` with a request word as the next thing the host does: BUSY = 0, and the request line of that word first among the
inputs (log 3). -/
def State.withFetchWord (s : State) (nbits w : Nat) : State :=
  { s with phase := .idle, inputs := .request (BitVec.ofNat 32 (w % 2 ^ nbits)) :: s.inputs }

end Sys2Proof.Machine
end

