-- ==== Sys2Proof/Safety.lean ====
section
/-! DEFINITION. What a good state and a safe step are, and the words the statements use: the bus protocol, the invariant,
the events of a transaction, sequences of operations. -/

namespace Sys2Proof.Machine

/-! ### The bus protocol (41_transaction.md R123, R124) -/

/-- How far the transaction in progress on the bus has come. -/
inductive BusStage where
  /-- No transaction is in progress. -/
  | quiet
  /-- Event 1, the release, has happened. -/
  | released
  /-- Event 2, the assertion, has happened. -/
  | asserted
  /-- Event 3, the transfer, has happened. -/
  | moved
  deriving DecidableEq, Repr

/-- The events a transaction consists of, in their order (R124); reset may cut in anywhere (70_reset_and_hazards.md R203). -/
def BusStage.after (g : BusStage) (e : BusEvent) : Option BusStage :=
  match g, e with
  | _, .reset => some .quiet
  | .quiet, .csWrite false => some .released
  | .released, .csWrite true => some .asserted
  | .asserted, .xfer _ _ _ => some .moved
  | .moved, .csWrite false => some .quiet
  | _, _ => none

/-- The stage a trace leads to from `g`; none where an event is out of order. -/
def busStageFrom (g : BusStage) : List BusEvent → Option BusStage
  | [] => some g
  | e :: es => (g.after e).bind fun h => busStageFrom h es

/-- The stage a trace leads to. -/
def busStage (trace : List BusEvent) : Option BusStage := busStageFrom .quiet trace

/-- The stage the bus is at when PHASE names the next event. -/
def Phase.stage (ph : Phase) : BusStage :=
  match ph with
  | .bus _ .compose => .released
  | .bus _ .assert => .released
  | .bus _ .xfer => .asserted
  | .bus _ .deassert => .moved
  | _ => .quiet

/-- Whether chip-select is asserted when PHASE names the next event (R122). -/
def Phase.asserts (ph : Phase) : Bool :=
  match ph with
  | .bus _ .xfer => true
  | .bus _ .deassert => true
  | _ => false

/-! ### The invariant -/

/-- The codes the block writes to STATUS.KIND (60_exceptions.md R180, R181). -/
def writtenKinds : List (BitVec 3) := [0, 1, 4, 5, 6]

/-- What holds at reset and after every step. -/
structure State.Inv (s : State) : Prop where
  /-- KIND is a code the block writes: never HandleNull, PointerNull or 7 (R180, R181). -/
  kind_written : s.kind ∈ writtenKinds
  /-- XFER_CODE is nonzero exactly after a Transport failure (10_state.md R32). -/
  code_iff_transport : s.kind = Kind.transport.code ↔ s.xferCode ≠ 0
  /-- XFER_CODE has XS_W bits (R32). -/
  code_width : s.params.portStatus s.xferCode = s.xferCode
  /-- So has the status of the transfer in flight. -/
  status_width : s.params.portStatus s.xst = s.xst
  /-- With CRC_EN = 0 no check runs (R26, R27). -/
  crc_off : s.crcEn = false → s.crcOk = false ∧ s.kind ≠ Kind.crcCheckFailed.code
  /-- After a CRC mismatch CRC_OK is 0 (60_exceptions.md R180, R183). -/
  crc_failed : s.kind = Kind.crcCheckFailed.code → s.crcOk = false
  /-- FRAME.RSV and FRAME.TRAIL are always 0 (41_transaction.md R127, D8). -/
  frame_reserved : s.frame.rsv = 0 ∧ s.frame.trail = 0
  /-- Chip-select is asserted from event 2 to event 4 of a transaction, and at no other time (R122, R123). -/
  cs_follows_phase : s.cs = s.phase.asserts
  /-- The trace consists of whole transactions, the last perhaps in progress where PHASE says (R123, R124). -/
  trace_brackets : busStage s.bus = some s.phase.stage
  /-- TXB and RXB hold up to 6 bytes (R38). -/
  buffers_bounded : s.txb.length ≤ 6 ∧ s.rxb.length ≤ 6
  /-- IDX is from 0 to 3 (R38). -/
  idx_bounded : s.idx ≤ 3
  /-- In ANGLE_DISCRETE, IDX is one of its sub-reads (42_angle.md R153). -/
  idx_subread : ∀ point, s.phase = .bus .angleDiscrete point → s.idx < (discreteRegs s.params s.crcEn).length
  /-- Nothing is noted of an operation when none is in progress (log 10). -/
  held_idle : s.phase = .idle → s.held = []

/-- The registers at the values 10_state.md R41 and 70_reset_and_hazards.md R200 state, CRC_EN apart (it is sampled). -/
structure State.AtReset (s : State) : Prop where
  kind_ok : s.kind = 0
  not_busy : s.busy = false
  crc_ok : s.crcOk = false
  no_warning : s.warn = 0
  deasserted : s.cs = false
  xfer_code : s.xferCode = 0
  result_data : s.resultData = 0
  raw_angle : s.rawAngle = 0
  frame_fields : s.frame = ⟨0, 0, 0, 0, 0⟩
  frame_word : s.frame.word = 0
  crc_acc : s.crcAcc = 0
  phase_idle : s.phase = .idle

/-- A step that raises no fault. -/
def State.Safe (s : State) : Prop := ∀ f, step s ≠ .fault f

/-! ### Words of the statements -/

/-- The first byte a command sends, `CMD << 4` (30_encoding.md R75). -/
def commandByte (cmd : Nibble) : Byte := cmd.setWidth 8 <<< 4

/-- The four events of a transaction (41_transaction.md R124). -/
def bracketEvents (tx : List Byte) (st : Word) (rx : List Byte) : List BusEvent :=
  [.csWrite false, .csWrite true, .xfer tx st rx, .csWrite false]

/-- `s` with one transaction behind it and the operation ended: frame `f` composed, `tx` sent, `st` and `rx` received,
`rest` the answers still to come. Everything else is as in `s`. -/
def transacted (s : State) (f : Frame) (tx : List Byte) (st : Word) (rx : List Byte) (rest : List Answer) : State :=
  { s with
    frame := f
    cs := false
    phase := .idle
    txb := tx
    rxb := rx
    xst := st
    answers := rest
    bus := s.bus ++ bracketEvents tx st rx
    held := [] }

/-- `s` with operation `op` waiting at an `Xfer` that is not answered: frame `f` composed, `tx` offered. -/
def waiting (s : State) (op : BusOp) (f : Frame) (tx : List Byte) : State :=
  { s with
    frame := f
    cs := true
    phase := .bus op .xfer
    txb := tx
    bus := s.bus ++ [.csWrite false, .csWrite true]
    held := s.held ++ [⟨s.frame, false⟩, ⟨f, false⟩, ⟨f, true⟩] }

/-- FRAME after an operation that keeps FRAME.DATA (30_encoding.md R77). -/
def keptFrame (s : State) (cmd : Nibble) (reg : Byte) : Frame := ⟨0, cmd, reg, s.frame.data, s.frame.trail⟩

/-- FRAME after an operation that writes FRAME.DATA (30_encoding.md R77). -/
def putFrame (s : State) (cmd : Nibble) (reg d : Byte) : Frame := ⟨0, cmd, reg, d, s.frame.trail⟩

/-- The bytes of a sub-read or READ_REG (30_encoding.md R77). -/
def readTx (s : State) (reg : Byte) : List Byte := [commandByte s.params.cmdRead, reg, s.frame.data]

/-- The four registers a sub-read of ANGLE_DISCRETE can read, in their order (42_angle.md R153). -/
def subReadRegs (s : State) : List Byte :=
  [s.params.regAngleH, s.params.regAngleM, s.params.regAngleL, s.params.regCrc]

/-- The bus events of ANGLE_DISCRETE's answered sub-reads, one bracket for each answer (42_angle.md R153). -/
def subReadEvents (s : State) : List Byte → List Answer → List BusEvent
  | reg :: regs, a :: as =>
    bracketEvents (readTx s reg) (s.params.portStatus a.status) [a.rx0, a.rx1, a.rx2] ++ subReadEvents s regs as
  | _, _ => []

/-- What FRAME and CS hold in turn in ANGLE_DISCRETE when `answers` are answered and the next transfer is not, from a FRAME
that holds `prev` (log 10). -/
def subReadViews (s : State) (prev : Frame) : List Byte → List Answer → List View
  | reg :: regs, _ :: as =>
    let f := keptFrame s s.params.cmdRead reg
    [⟨prev, false⟩, ⟨f, false⟩, ⟨f, true⟩, ⟨f, false⟩] ++ subReadViews s f regs as
  | reg :: _, [] =>
    let f := keptFrame s s.params.cmdRead reg
    [⟨prev, false⟩, ⟨f, false⟩, ⟨f, true⟩]
  | [], _ => []

/-- L after sub-reads number k, k + 1, … have been answered by `answers`: `L[k] <- rx[2]` for each (42_angle.md R153). -/
def subReadLayout (l : Layout) (k : Nat) : List Answer → Layout
  | [] => l
  | a :: as => subReadLayout (l.put k a.rx2) (k + 1) as

/-- RXB after these answers to sub-reads: the bytes of the last one. -/
def subReadRxb (s : State) (answers : List Answer) : List Byte :=
  match answers.getLast? with
  | some a => [a.rx0, a.rx1, a.rx2]
  | none => s.rxb

/-- The codes an operation may end with (60_exceptions.md R180): Transport from every operation with a transaction, Error
from the acknowledged commands, CrcCheckFailed from the angle operations with CRC_EN = 1, OK from all. -/
def resultsOf (i : Instr) (crcEn : Bool) : List (BitVec 3) :=
  match i with
  | .crcInit => [0]
  | .crcStep _ => [0]
  | .readReg _ => [0, 6]
  | .writeReg _ _ => [0, 6]
  | .angleDiscrete => if crcEn then [0, 5, 6] else [0, 6]
  | .angleBurst => if crcEn then [0, 5, 6] else [0, 6]
  | .autoZero => [0, 1, 6]
  | .progEeprom => [0, 1, 6]

/-- Two answers agree in the received bytes the operation consults (30_encoding.md R78, R79): rx[2] of three bytes, rx[2] to
rx[4] of a burst and rx[5] where it has one, none for WRITE_REG. -/
def SameConsulted (i : Instr) (crcEn : Bool) (a b : Answer) : Prop :=
  match i with
  | .crcInit => True
  | .crcStep _ => True
  | .readReg _ => a.rx2 = b.rx2
  | .writeReg _ _ => True
  | .angleDiscrete => a.rx2 = b.rx2
  | .angleBurst => a.rx2 = b.rx2 ∧ a.rx3 = b.rx3 ∧ a.rx4 = b.rx4 ∧ (crcEn = true → a.rx5 = b.rx5)
  | .autoZero => a.rx2 = b.rx2
  | .progEeprom => a.rx2 = b.rx2

/-- A bus event with the values of its received bytes erased: what the block did, the status it got and how many bytes. -/
def BusEvent.erased : BusEvent → BusEvent
  | .csWrite a => .csWrite a
  | .xfer tx st rx => .xfer tx st (List.replicate rx.length 0)
  | .reset => .reset

/-- Operations one after another, stopping at the first that does not answer a next state. -/
def execAll : List Instr → State → Host.Outcome State Fault Refusal
  | [], s => .next s
  | i :: is, s =>
    match exec i s with
    | .next t => execAll is t
    | .fault f => .fault f
    | .refused r => .refused r

end Sys2Proof.Machine
end

