-- ==== Sys2Proof/Certificates/Slice0/Obligations.lean ====
section
/-! DEFINITION. The statements about the model, one `Obligations.<Name>` each; OBLIGATIONS.json lists them. -/

open Sys2Proof Sys2Proof.Machine

/-! ## Encoding (30_encoding.md) -/

/-- R83's words, written out from R70 and R71, decode to what they stand for, and the two invalid ones to nothing. -/
def Obligations.SpecWordsDecode : Prop :=
  decode 0x00000A03 = .instr (.readReg 0x0A) ∧ decode 0x00580A04 = .instr (.writeReg 0x0A 0x58) ∧
  decode 0x00310002 = .instr (.crcStep 0x31) ∧ decode 0x00000006 = .instr .angleBurst ∧
  decode 0x00000013 = .invalid .mbz0NotZero ∧ decode 0x00010003 = .invalid .dataNotZero

/-- R71, R73: the word of an operation decodes to that operation, with every operand at every value. -/
def Obligations.DecodeOfEncode : Prop :=
  ∀ i : Instr, decode (encode i) = .instr i

/-- R72, R74: a word that decodes to an operation is the one word of that operation: no bit of it is ignored. -/
def Obligations.EncodeOfDecode : Prop :=
  ∀ (w : Word) (i : Instr), decode w = .instr i → encode i = w

/-- R74: a word is operation X if and only if it matches X's row, no two rows match the same word, and a word that
matches no row is invalid. -/
def Obligations.RowsDecideDecoding : Prop :=
  (∀ (w : Word) (r : Row), r ∈ rows → (r.hits w = true ↔ ∃ i, decode w = .instr i ∧ i.mnemonic = r.mnemonic)) ∧
  (∀ (w : Word) (r r' : Row), r ∈ rows → r' ∈ rows → r.hits w = true → r'.hits w = true → r = r') ∧
  (∀ w : Word, (∀ r ∈ rows, r.hits w = false) → ∃ why, decode w = .invalid why)

/-- R72: which words are invalid requests, and that such a request, from IDLE, performs no event, changes neither FRAME
nor CRC_ACC nor anything but RQ, KIND and XFER_CODE, and ends in InvalidArgument: by the request decode that is the next
event after its REQ write (log 15), and as a request line, which the model runs whole in one step (log 2). `held` is the
model's own (log 10). -/
def Obligations.InvalidRequestOnlyReports : Prop :=
  (∀ w : Word, (∃ why, decode w = .invalid why) ↔
    w.extractLsb' 0 4 = 0x0#4 ∨ 0x9#4 ≤ w.extractLsb' 0 4 ∨ w.extractLsb' 4 4 ≠ 0#4 ∨ w.extractLsb' 24 8 ≠ 0#8 ∨
    (w.extractLsb' 8 8 ≠ 0#8 ∧ w.extractLsb' 0 4 ∈ [0x1#4, 0x2#4, 0x5#4, 0x6#4, 0x7#4, 0x8#4]) ∨
    (w.extractLsb' 16 8 ≠ 0#8 ∧ w.extractLsb' 0 4 ∈ [0x1#4, 0x3#4, 0x5#4, 0x6#4, 0x7#4, 0x8#4])) ∧
  (∀ (s : State) (w : Word) (rest : List Input) (why : Reject),
    s.inputs = .request w :: rest → s.phase = .idle → decode w = .invalid why →
    step s = .next { s with inputs := rest, rq := w, kind := 4, xferCode := 0, held := [] }) ∧
  (∀ (s : State) (w : Word) (why : Reject), s.phase = .idle → decode w = .invalid why →
    advance (latch w s) = { s with rq := w, kind := 4, xferCode := 0, held := [] })

/-- R81: a mnemonic line is a request exactly when it has its operand count and operands of 0 to 255, and its operands
reach the request's fields with their values. -/
def Obligations.AssemblerLines : Prop :=
  (∀ (p : Params) (m : Mnemonic) (os : List Operand),
    ((Line.op m os).request p).isSome = true ↔ os.length = m.arity ∧ ∀ o ∈ os, o.value p ≤ 255) ∧
  (∀ (p : Params) (m : Mnemonic) (os : List Operand) (i : Instr), (Line.op m os).request p = some i →
    i.mnemonic = m ∧ ∃ r d, (i = .crcInit ∧ os = []) ∨
      (i = .crcStep d ∧ os.map (·.value p) = [d.toNat]) ∨
      (i = .readReg r ∧ os.map (·.value p) = [r.toNat]) ∨
      (i = .writeReg r d ∧ os.map (·.value p) = [r.toNat, d.toNat]) ∨
      (i ∈ [Instr.angleDiscrete, .angleBurst, .autoZero, .progEeprom] ∧ os = []))

/-! ## The step and the host interface (10_state.md, 70_reset_and_hazards.md) -/

/-- A step whose next act is a request line, from IDLE, runs the decoded operation on the state in which the word has been
latched in RQ, and BUSY set (R24, R72). That one step on a request line runs the whole operation is the model's choice
(log 2): the spec fixes no size of a step. `held` is the model's own (log 10). -/
def Obligations.StepRunsDecodedRequest : Prop :=
  ∀ (s : State) (w : Word) (rest : List Input) (i : Instr),
    s.inputs = .request w :: rest → s.phase = .idle → decode w = .instr i →
    step s = exec i { s with inputs := rest, rq := w, phase := .decode, held := [⟨s.frame, s.cs⟩] }

/-- R24: a write of REQ while BUSY = 0, raw or by a program's line, latches the word and sets BUSY, with request
decode next (`held` is the model's own, log 10); a raw write while BUSY = 1 is ignored. -/
def Obligations.ReqWriteStartsOrIsIgnored : Prop :=
  ∀ (s : State) (w : Word) (rest : List Input),
    (s.inputs = .write 0 w :: rest ∨ s.inputs = .issue w :: rest → s.busy = false →
      ∃ t, step s = .next t ∧ t.busy = true ∧
        t = { s with inputs := rest, rq := w, phase := .decode, held := [⟨s.frame, s.cs⟩] }) ∧
    (s.inputs = .write 0 w :: rest → s.busy = true → step s = .next { s with inputs := rest })

/-- R210: a raw write of REQ while BUSY = 1 is dropped; a program line that does it, with its WAIT or without, is refused
by name. -/
def Obligations.BusyRequestLineRefused : Prop :=
  ∀ (s : State) (w : Word) (rest : List Input), s.busy = true →
    (s.inputs = .write 0 w :: rest → step s = .next { s with inputs := rest }) ∧
    (s.inputs = .request w :: rest → step s = .refused .reqWhileBusy) ∧
    (s.inputs = .issue w :: rest → step s = .refused .reqWhileBusy)

/-- A step is refused for no other reason than R210's. -/
def Obligations.OnlyBusyRequestLinesRefused : Prop :=
  ∀ (s : State) (r : Refusal), step s = .refused r →
    r = .reqWhileBusy ∧ s.busy = true ∧
      ∃ w rest, s.inputs = .request w :: rest ∨ s.inputs = .issue w :: rest

/-- R23: reads of REQ and of indices from 7 on return 0; writes to any index but REQ's are ignored; a read has no side
effect (only the model's own `rdata` and `draws` change beside the act being used up). -/
def Obligations.HostAccessRules : Prop :=
  (∀ (s : State) (idx : Nat) (rest : List Input), s.inputs = .read idx :: rest → idx = 0 ∨ 7 ≤ idx →
    step s = .next { s with inputs := rest, rdata := 0 }) ∧
  (∀ (s : State) (idx : Nat) (v : Word) (rest : List Input), s.inputs = .write idx v :: rest → idx ≠ 0 →
    step s = .next { s with inputs := rest }) ∧
  (∀ (s t : State) (idx : Nat) (rest : List Input), s.inputs = .read idx :: rest → step s = .next t →
    t = { s with inputs := rest, rdata := t.rdata, draws := t.draws })

/-- R21, R25, R40: what a read of each register returns. XFER_CODE, RESULT_DATA, RAW_ANGLE and CRC_ACC: in every state.
STATUS field by field in every state whose KIND is not 7 (a fault of the model, log 13), its CS only while IDLE. FRAME while
IDLE. While BUSY = 1 (FRAME and CS apart), at whatever event of whatever request, the values from before the operation. -/
def Obligations.HostReadsReturnRegisters : Prop :=
  (∀ (s : State) (idx : Nat) (rest : List Input), s.inputs = .read idx :: rest → idx ∈ [2, 3, 4, 6] →
    ∃ v, step s = .next { s with inputs := rest, rdata := v } ∧
      (idx = 2 → v = s.xferCode) ∧
      (idx = 3 → v.toNat = s.resultData.toNat) ∧
      (idx = 4 → v.toNat = s.rawAngle.toNat) ∧
      (idx = 6 → v.toNat = s.crcAcc.toNat)) ∧
  (∀ (s : State) (rest : List Input), s.inputs = .read 1 :: rest → s.kind ≠ 7 →
    ∃ t, step s = .next t ∧
      t.rdata.extractLsb' 0 3 = s.kind ∧ t.rdata.getLsbD 3 = s.busy ∧ t.rdata.getLsbD 4 = s.crcEn ∧
      t.rdata.getLsbD 5 = s.crcOk ∧ t.rdata.extractLsb' 6 3 = s.warn ∧ t.rdata.extractLsb' 10 22 = 0 ∧
      (s.phase = .idle → t.rdata.getLsbD 9 = s.cs ∧ t = { s with inputs := rest, rdata := t.rdata })) ∧
  (∀ (s : State) (rest : List Input), s.inputs = .read 5 :: rest → s.phase = .idle →
    step s = .next { s with inputs := rest, rdata := s.frame.word }) ∧
  (∀ (s u : State) (w : Word) (k idx : Nat) (rest : List Input), s.phase = .idle →
    u = { advances k (latch w s) with inputs := .read idx :: rest } → u.busy = true → (idx = 1 → s.kind ≠ 7) →
    ∃ t, step u = .next t ∧
      (idx = 1 → t.rdata.extractLsb' 0 3 = s.kind ∧ t.rdata.getLsbD 3 = true ∧ t.rdata.getLsbD 4 = s.crcEn ∧
        t.rdata.getLsbD 5 = s.crcOk ∧ t.rdata.extractLsb' 6 3 = s.warn) ∧
      (idx = 2 → t.rdata = s.xferCode) ∧
      (idx = 3 → t.rdata.toNat = s.resultData.toNat) ∧
      (idx = 4 → t.rdata.toNat = s.rawAngle.toNat) ∧
      (idx = 6 → t.rdata.toNat = s.crcAcc.toNat))

/-- R40: a read of FRAME or STATUS while BUSY = 1 sees FRAME and CS as one of the values they hold in the operation (those
already held, or those after some number of events from now), whatever the draw; the other fields are read as they are
(log 10: the draw is the model's free value; log 18: the events from now are those of the operation uncut by reset). -/
def Obligations.BusyReadsDrawHeldValues : Prop :=
  ∀ (s : State) (idx : Nat) (rest : List Input), s.inputs = .read idx :: rest → s.busy = true → s.kind ≠ 7 →
    idx = 1 ∨ idx = 5 →
    ∃ (t : State) (v : View), step s = .next t ∧ (v ∈ s.held ∨ ∃ k, v = ⟨(advances k s).frame, (advances k s).cs⟩) ∧
      (idx = 5 → t.rdata = v.frame.word) ∧ (idx = 1 → t.rdata = s.statusWord v.cs)

/-- R40: while an operation goes on, an event changes none of KIND, XFER_CODE, RESULT_DATA, RAW_ANGLE, WARN, CRC_OK and
CRC_ACC: they change only at its end event. -/
def Obligations.ResultsChangeOnlyAtEndEvent : Prop :=
  ∀ s : State, (advance s).busy = true →
    (advance s).kind = s.kind ∧ (advance s).xferCode = s.xferCode ∧ (advance s).resultData = s.resultData ∧
    (advance s).rawAngle = s.rawAngle ∧ (advance s).warn = s.warn ∧ (advance s).crcOk = s.crcOk ∧
    (advance s).crcAcc = s.crcAcc

/-! ## Reset (70_reset_and_hazards.md) -/

/-- R200: the reset values, at power-on of any instance and at a reset in any state; CRC_EN sampled from `cfg_crc_en`. Reset
is one act (log 20). -/
def Obligations.ResetValues : Prop :=
  (∀ (p : Params) (c : Bool), (State.powerOn p c).AtReset ∧ (State.powerOn p c).crcEn = c) ∧
  (∀ (s : State) (rest : List Input), s.inputs = .reset :: rest →
    ∃ t, step s = .next t ∧ t.AtReset ∧ t.crcEn = s.cfgCrcEn)

/-- A reset in any state leaves the power-on state of the instance; no event of the operation happens any more, and what is
outside the block stays, but for the answer of a transfer in flight, which is discarded (R200, R201, R203; log 6, log 7 and
log 11 for the fields the spec gives no value; log 19: the transfer in flight leaves no event in the trace; log 20: reset
is one act). -/
def Obligations.ResetCutsOperation : Prop :=
  ∀ (s : State) (rest : List Input), s.inputs = .reset :: rest →
    ∃ left : List Answer,
      ((∃ op, s.phase = .bus op .xfer) → left = s.answers.drop 1) ∧
      ((∀ op, s.phase ≠ .bus op .xfer) → left = s.answers) ∧
      step s = .next { State.powerOn s.params s.cfgCrcEn with
        inputs := rest
        answers := left
        bus := s.bus ++ [.reset]
        draws := s.draws
        rdata := s.rdata }

/-- R201: CRC_EN is loaded from `cfg_crc_en` at reset and at no other time; a change of the input changes nothing else. Reset is
one act, in which the input is sampled (log 20). -/
def Obligations.CrcEnLoadedOnlyAtReset : Prop :=
  ∀ s t : State, step s = .next t →
    (∀ rest, s.inputs = .reset :: rest → t.crcEn = s.cfgCrcEn) ∧
    ((∀ rest, s.inputs ≠ .reset :: rest) → t.crcEn = s.crcEn) ∧
    (∀ b rest, s.inputs = .pin b :: rest → t = { s with inputs := rest, cfgCrcEn := b })

/-! ## The CRC engine (40_crc.md) -/

/-- R100: every entry of the ROM is the eight-step construction of its index. -/
def Obligations.CrcRomIsConstruction : Prop :=
  ∀ i : Byte, crcRom i = crcShifts 8 i

/-- R109: the check value, over the nine ASCII bytes "123456789". -/
def Obligations.CrcCheckValue : Prop :=
  crc8 [0x31, 0x32, 0x33, 0x34, 0x35, 0x36, 0x37, 0x38, 0x39] = 0xF4

/-- R102 (a), (b), (e): incrementality, zero bytes, and the bitwise form of the fold. -/
def Obligations.Crc8IncrementalAndBitwise : Prop :=
  (∀ l l' : List Byte, crc8 (l ++ l') = crcFold (crc8 l) l') ∧
  (∀ n : Nat, crc8 (List.replicate n 0) = 0) ∧
  (∀ l : List Byte, crc8 l = l.foldl (fun acc d => crcShifts 8 (acc ^^^ d)) 0)

/-- R102 (c): linearity over bytewise XOR of lists of equal length. -/
def Obligations.Crc8Linear : Prop :=
  ∀ a b : List Byte, a.length = b.length → crc8 (List.zipWith (· ^^^ ·) a b) = crc8 a ^^^ crc8 b

/-- R102 (d): a list that differs from `l` in exactly one bit has another CRC. -/
def Obligations.Crc8DetectsSingleBit : Prop :=
  ∀ (l : List Byte) (k j : Nat), k < l.length → j < 8 →
    crc8 (l.set k (l.getD k 0 ^^^ (1#8 <<< j))) ≠ crc8 l

/-- R104: CRC_INIT completes in every state, with CRC_ACC 0 and nothing else changed but KIND, XFER_CODE and the end of the
operation; no word but 0x00000001 is CRC_INIT. -/
def Obligations.CrcInitOutcome : Prop :=
  (∀ w : Word, decode w = .instr .crcInit ↔ w = 0x00000001) ∧
  ∀ s : State, exec .crcInit s = .next { s with crcAcc := 0x00, kind := 0, xferCode := 0, phase := .idle, held := [] }

/-- R105: CRC_STEP d completes in every state, with CRC_ACC looked up in T and nothing else changed but KIND, XFER_CODE and
the end of the operation; no word but those of its pattern is CRC_STEP; CRC_INIT, then CRC_STEP of each byte of `l`, leaves
CRC_ACC = Crc8(l). -/
def Obligations.CrcStepOutcome : Prop :=
  (∀ (w : Word) (d : Byte), decode w = .instr (.crcStep d) ↔ w.toNat = 0x2 + d.toNat * 2 ^ 16) ∧
  (∀ (s : State) (d : Byte), exec (.crcStep d) s =
    .next { s with crcAcc := crcRom (s.crcAcc ^^^ d), kind := 0, xferCode := 0, phase := .idle, held := [] }) ∧
  (∀ (s : State) (l : List Byte), execAll (.crcInit :: l.map .crcStep) s =
    .next { s with crcAcc := crc8 l, kind := 0, xferCode := 0, phase := .idle, held := [] })

/-! ## Transactions and register operations (41_transaction.md) -/

/-- R75: the packing of FRAME, and its wire bytes; the first byte sent is `CMD << 4` when RSV is 0. -/
def Obligations.FramePackingAndWireBytes : Prop :=
  ∀ f : Frame,
    f.word.extractLsb' 0 4 = f.rsv ∧ f.word.extractLsb' 4 4 = f.cmd ∧ f.word.extractLsb' 8 8 = f.reg ∧
    f.word.extractLsb' 16 8 = f.data ∧ f.word.extractLsb' 24 8 = f.trail ∧
    f.wire 0 = (f.cmd.setWidth 8 <<< 4) ||| f.rsv.setWidth 8 ∧ f.wire 1 = f.reg ∧ f.wire 2 = f.data ∧ f.wire 3 = f.trail ∧
    (f.rsv = 0 → f.wire 0 = commandByte f.cmd)

/-- R130: READ_REG r on every answered transfer: its trace, FRAME, RESULT_DATA on success only, KIND, XFER_CODE; nothing
else changes. -/
def Obligations.ReadRegOutcome : Prop :=
  (∀ r : Byte, (encode (.readReg r)).toNat = 0x3 + r.toNat * 2 ^ 8) ∧
  ∀ (s : State) (r : Byte) (a : Answer) (rest : List Answer), s.answers = a :: rest →
    (s.params.portStatus a.status = 0 → exec (.readReg r) s = .next
      { transacted s (keptFrame s s.params.cmdRead r) (readTx s r) 0 [a.rx0, a.rx1, a.rx2] rest with
        resultData := a.rx2, kind := 0, xferCode := 0 }) ∧
    (s.params.portStatus a.status ≠ 0 → exec (.readReg r) s = .next
      { transacted s (keptFrame s s.params.cmdRead r) (readTx s r) (s.params.portStatus a.status)
          [a.rx0, a.rx1, a.rx2] rest with
        kind := 6, xferCode := s.params.portStatus a.status })

/-- R131: WRITE_REG r, d on every answered transfer: its trace, FRAME with DATA = d even when the transfer fails, KIND,
XFER_CODE; the received bytes are not consulted and nothing else changes. -/
def Obligations.WriteRegOutcome : Prop :=
  (∀ r d : Byte, (encode (.writeReg r d)).toNat = 0x4 + r.toNat * 2 ^ 8 + d.toNat * 2 ^ 16) ∧
  ∀ (s : State) (r d : Byte) (a : Answer) (rest : List Answer), s.answers = a :: rest →
    (s.params.portStatus a.status = 0 → exec (.writeReg r d) s = .next
      { transacted s (putFrame s s.params.cmdWrite r d) [commandByte s.params.cmdWrite, r, d] 0
          [a.rx0, a.rx1, a.rx2] rest with
        kind := 0, xferCode := 0 }) ∧
    (s.params.portStatus a.status ≠ 0 → exec (.writeReg r d) s = .next
      { transacted s (putFrame s s.params.cmdWrite r d) [commandByte s.params.cmdWrite, r, d]
          (s.params.portStatus a.status) [a.rx0, a.rx1, a.rx2] rest with
        kind := 6, xferCode := s.params.portStatus a.status })

/-- R132: after WRITE_REG r1, d1, whatever its outcome, a READ_REG r2 sends [CMD_READ<<4, r2, d1]. -/
def Obligations.ReadSendsKeptData : Prop :=
  ∀ (s : State) (r1 d1 r2 : Byte) (a b : Answer) (rest : List Answer), s.answers = a :: b :: rest →
    ∃ (t : State) (st st' : Word) (rx rx' : List Byte),
      execAll [.writeReg r1 d1, .readReg r2] s = .next t ∧
      t.bus = s.bus ++ bracketEvents [commandByte s.params.cmdWrite, r1, d1] st rx ++
        bracketEvents [commandByte s.params.cmdRead, r2, d1] st' rx'

/-- R126: a transfer without an answer leaves the block in the operation, waiting, with BUSY = 1 and CS = 1 and the transfer
offered; for every operation that uses the bus, and for ANGLE_DISCRETE at each of its sub-reads (R153), after the successful
answers `good` to the ones before it. An empty list of answers is the model's way to say "never" (log 4);
the transfer offered stands in TXB and PHASE, and not yet in the trace (log 19). -/
def Obligations.UnansweredTransferWaits : Prop :=
  (∀ s : State, s.answers = [] →
    (∀ r, exec (.readReg r) s =
      .next (waiting s (.readReg r) (keptFrame s s.params.cmdRead r) (readTx s r))) ∧
    (∀ r d, exec (.writeReg r d) s =
      .next (waiting s (.writeReg r d) (putFrame s s.params.cmdWrite r d) [commandByte s.params.cmdWrite, r, d])) ∧
    (exec .angleBurst s = .next (waiting s .angleBurst (keptFrame s s.params.cmdBurst s.params.regAngleH)
        ([commandByte s.params.cmdBurst, s.params.regAngleH, 0, 0, 0] ++ if s.crcEn then [0] else []))) ∧
    (exec .autoZero s = .next (waiting s .autoZero (putFrame s s.params.cmdAutoZero s.params.regCmdAck 0)
        [commandByte s.params.cmdAutoZero, s.params.regCmdAck, 0])) ∧
    (exec .progEeprom s = .next (waiting s .progEeprom (putFrame s s.params.cmdProgEeprom s.params.regCmdAck 0)
        [commandByte s.params.cmdProgEeprom, s.params.regCmdAck, 0]))) ∧
  (∀ (s : State) (good : List Answer) (reg : Byte), s.answers = good → good.length < (if s.crcEn then 4 else 3) →
    (∀ a ∈ good, s.params.portStatus a.status = 0) → (subReadRegs s)[good.length]? = some reg →
    exec .angleDiscrete s = .next
      { s with
        frame := keptFrame s s.params.cmdRead reg
        cs := true
        phase := .bus .angleDiscrete .xfer
        txb := readTx s reg
        rxb := subReadRxb s good
        xst := if good = [] then s.xst else 0
        idx := good.length
        layout := subReadLayout s.layout 0 good
        answers := []
        bus := s.bus ++ subReadEvents s (subReadRegs s) good ++ [.csWrite false, .csWrite true]
        held := s.held ++ subReadViews s s.frame (subReadRegs s) good })

/-- R218, R126: a block whose transfer is never answered keeps its place, CS, registers and trace in every step but reset,
and a reset ends it (log 4: an empty list of answers is "never"; log 19: the unanswered transfer is not in the trace). -/
def Obligations.OnlyResetEndsHang : Prop :=
  ∀ (s t : State) (op : BusOp), s.phase = .bus op .xfer → s.answers = [] → step s = .next t →
    ((∀ rest, s.inputs ≠ .reset :: rest) →
      t = { s with inputs := t.inputs, cfgCrcEn := t.cfgCrcEn, rdata := t.rdata, draws := t.draws }) ∧
    (∀ rest, s.inputs = .reset :: rest → t.busy = false ∧ t.cs = false)

/-- R76: every transfer an operation makes begins with one of the five command codes; R53, R58: it receives as many bytes
as it sends, 3, 5 or 6; R124: it stands between CsWrite(0), CsWrite(1) and CsWrite(0), and nothing else is on the bus. -/
def Obligations.TransfersAreBracketedCommands : Prop :=
  ∀ (i : Instr) (s t : State), exec i s = .next t → t.busy = false →
    ∃ xs : List (List Byte × Word × List Byte),
      t.bus = s.bus ++ xs.flatMap (fun x => bracketEvents x.1 x.2.1 x.2.2) ∧ xs.length ≤ 4 ∧
      ∀ x ∈ xs, x.1.length = x.2.2.length ∧ x.1.length ∈ [3, 5, 6] ∧
        ∃ c ∈ s.params.codes, ∃ tail, x.1 = commandByte c :: tail

/-! ## Angle acquisition (42_angle.md) -/

/-- R151: bit-reassembly puts L0, L1 and L2[7:3] at raw[20:13], raw[12:5] and raw[4:0], the warnings are L2[2:0], and the
map is a bijection with the inverse the rule gives. -/
def Obligations.ReassemblyIsBijection : Prop :=
  (∀ l0 l1 l2 : Byte,
    (assemble l0 l1 l2).extractLsb' 13 8 = l0 ∧ (assemble l0 l1 l2).extractLsb' 5 8 = l1 ∧
    (assemble l0 l1 l2).extractLsb' 0 5 = l2.extractLsb' 3 5 ∧ warnOf l2 = l2.extractLsb' 0 3 ∧
    l2.toNat = ((assemble l0 l1 l2).extractLsb' 0 5).toNat * 8 + (warnOf l2).toNat) ∧
  (∀ (r : RawAngle) (w : Warn),
    ∃ l2 : Byte, l2.extractLsb' 3 5 = r.extractLsb' 0 5 ∧ l2.extractLsb' 0 3 = w ∧
      assemble (r.extractLsb' 13 8) (r.extractLsb' 5 8) l2 = r ∧ warnOf l2 = w)

/-- R154, R152: ANGLE_BURST on every answered transfer: failed, without CRC, with a matching and with a mismatching CRC
byte. The echo bytes rx[0] and rx[1] are not consulted; nothing else changes. -/
def Obligations.AngleBurstOutcome : Prop :=
  encode .angleBurst = 0x00000006 ∧
  ∀ (s : State) (a : Answer) (rest : List Answer), s.answers = a :: rest →
    (s.params.portStatus a.status ≠ 0 → exec .angleBurst s = .next
      { transacted s (keptFrame s s.params.cmdBurst s.params.regAngleH)
          ([commandByte s.params.cmdBurst, s.params.regAngleH, 0, 0, 0] ++ if s.crcEn then [0] else [])
          (s.params.portStatus a.status) (a.bytes (burstLength s.crcEn)) rest with
        kind := 6, xferCode := s.params.portStatus a.status }) ∧
    (s.params.portStatus a.status = 0 → s.crcEn = false → exec .angleBurst s = .next
      { transacted s (keptFrame s s.params.cmdBurst s.params.regAngleH)
          [commandByte s.params.cmdBurst, s.params.regAngleH, 0, 0, 0] 0
          [a.rx0, a.rx1, a.rx2, a.rx3, a.rx4] rest with
        layout := ⟨a.rx2, a.rx3, a.rx4, s.layout.l3⟩
        warn := warnOf a.rx4
        rawAngle := assemble a.rx2 a.rx3 a.rx4
        kind := 0, xferCode := 0 }) ∧
    (s.params.portStatus a.status = 0 → s.crcEn = true → crc8 [a.rx2, a.rx3, a.rx4] = a.rx5 →
      exec .angleBurst s = .next
      { transacted s (keptFrame s s.params.cmdBurst s.params.regAngleH)
          [commandByte s.params.cmdBurst, s.params.regAngleH, 0, 0, 0, 0] 0
          [a.rx0, a.rx1, a.rx2, a.rx3, a.rx4, a.rx5] rest with
        layout := ⟨a.rx2, a.rx3, a.rx4, a.rx5⟩
        crcOk := true
        warn := warnOf a.rx4
        rawAngle := assemble a.rx2 a.rx3 a.rx4
        kind := 0, xferCode := 0 }) ∧
    (s.params.portStatus a.status = 0 → s.crcEn = true → crc8 [a.rx2, a.rx3, a.rx4] ≠ a.rx5 →
      exec .angleBurst s = .next
      { transacted s (keptFrame s s.params.cmdBurst s.params.regAngleH)
          [commandByte s.params.cmdBurst, s.params.regAngleH, 0, 0, 0, 0] 0
          [a.rx0, a.rx1, a.rx2, a.rx3, a.rx4, a.rx5] rest with
        layout := ⟨a.rx2, a.rx3, a.rx4, a.rx5⟩
        crcOk := false
        kind := 5, xferCode := 0 })

/-- R153, R152 with CRC_EN = 0: ANGLE_DISCRETE on three successful sub-reads; 12 events; nothing else changes. -/
def Obligations.AngleDiscreteWithoutCrc : Prop :=
  ∀ (s : State) (a b c : Answer) (rest : List Answer), s.crcEn = false → s.answers = a :: b :: c :: rest →
    s.params.portStatus a.status = 0 → s.params.portStatus b.status = 0 → s.params.portStatus c.status = 0 →
    exec .angleDiscrete s = .next
      { s with
        frame := keptFrame s s.params.cmdRead s.params.regAngleL
        cs := false
        phase := .idle
        txb := readTx s s.params.regAngleL
        rxb := [c.rx0, c.rx1, c.rx2]
        xst := 0
        answers := rest
        held := []
        bus := s.bus ++ bracketEvents (readTx s s.params.regAngleH) 0 [a.rx0, a.rx1, a.rx2] ++
          bracketEvents (readTx s s.params.regAngleM) 0 [b.rx0, b.rx1, b.rx2] ++
          bracketEvents (readTx s s.params.regAngleL) 0 [c.rx0, c.rx1, c.rx2]
        idx := 2
        layout := ⟨a.rx2, b.rx2, c.rx2, s.layout.l3⟩
        warn := warnOf c.rx2
        rawAngle := assemble a.rx2 b.rx2 c.rx2
        kind := 0, xferCode := 0 }

/-- R153, R152, 40_crc.md R107 with CRC_EN = 1: ANGLE_DISCRETE on four successful sub-reads, with a matching and with a
mismatching CRC byte; 16 events; nothing else changes. -/
def Obligations.AngleDiscreteWithCrc : Prop :=
  ∀ (s : State) (a b c d : Answer) (rest : List Answer), s.crcEn = true → s.answers = a :: b :: c :: d :: rest →
    s.params.portStatus a.status = 0 → s.params.portStatus b.status = 0 → s.params.portStatus c.status = 0 →
    s.params.portStatus d.status = 0 →
    ∃ t : State,
      t = { s with
            frame := keptFrame s s.params.cmdRead s.params.regCrc
            cs := false
            phase := .idle
            txb := readTx s s.params.regCrc
            rxb := [d.rx0, d.rx1, d.rx2]
            xst := 0
            answers := rest
            held := []
            bus := s.bus ++ bracketEvents (readTx s s.params.regAngleH) 0 [a.rx0, a.rx1, a.rx2] ++
              bracketEvents (readTx s s.params.regAngleM) 0 [b.rx0, b.rx1, b.rx2] ++
              bracketEvents (readTx s s.params.regAngleL) 0 [c.rx0, c.rx1, c.rx2] ++
              bracketEvents (readTx s s.params.regCrc) 0 [d.rx0, d.rx1, d.rx2]
            idx := 3
            layout := ⟨a.rx2, b.rx2, c.rx2, d.rx2⟩ } ∧
      (crc8 [a.rx2, b.rx2, c.rx2] = d.rx2 → exec .angleDiscrete s = .next
        { t with
          crcOk := true
          warn := warnOf c.rx2
          rawAngle := assemble a.rx2 b.rx2 c.rx2
          kind := 0, xferCode := 0 }) ∧
      (crc8 [a.rx2, b.rx2, c.rx2] ≠ d.rx2 → exec .angleDiscrete s = .next
        { t with crcOk := false, kind := 5, xferCode := 0 })

/-- R153's errors, R125: a transport failure at sub-read k (the answers before it successful) stops ANGLE_DISCRETE there:
the brackets of sub-reads 0 to k and no later one, FRAME.REG that of sub-read k, L written by the sub-reads before it, and
no result register changed. -/
def Obligations.AngleDiscreteStopsAtFailure : Prop :=
  ∀ (s : State) (good : List Answer) (bad : Answer) (rest : List Answer) (reg : Byte),
    s.answers = good ++ bad :: rest → good.length < (if s.crcEn then 4 else 3) →
    (∀ a ∈ good, s.params.portStatus a.status = 0) → s.params.portStatus bad.status ≠ 0 →
    (subReadRegs s)[good.length]? = some reg →
    exec .angleDiscrete s = .next
      { s with
        frame := keptFrame s s.params.cmdRead reg
        cs := false
        phase := .idle
        txb := readTx s reg
        rxb := [bad.rx0, bad.rx1, bad.rx2]
        xst := s.params.portStatus bad.status
        idx := good.length
        layout := subReadLayout s.layout 0 good
        answers := rest
        bus := s.bus ++ subReadEvents s (subReadRegs s) (good ++ [bad])
        held := []
        kind := 6, xferCode := s.params.portStatus bad.status }

/-- R155: given the same telemetry, all statuses 0 and the same CRC_EN, both strategies end with the same KIND, RAW_ANGLE,
WARN and CRC_OK; they differ in the command code of FRAME and in the number of bus events. -/
def Obligations.StrategiesAgree : Prop :=
  ∀ (s : State) (ds rest rest' : List Answer) (b : Answer),
    ds.length = (if s.crcEn then 4 else 3) →
    ds.map (·.rx2) = [b.rx2, b.rx3, b.rx4] ++ (if s.crcEn then [b.rx5] else []) →
    (∀ a ∈ ds, s.params.portStatus a.status = 0) → s.params.portStatus b.status = 0 →
    ∃ t u : State, exec .angleDiscrete { s with answers := ds ++ rest } = .next t ∧
      exec .angleBurst { s with answers := b :: rest' } = .next u ∧
      t.kind = u.kind ∧ t.rawAngle = u.rawAngle ∧ t.warn = u.warn ∧ t.crcOk = u.crcOk ∧
      t.frame.cmd = s.params.cmdRead ∧ u.frame.cmd = s.params.cmdBurst ∧
      t.bus.length = s.bus.length + (if s.crcEn then 16 else 12) ∧ u.bus.length = s.bus.length + 4

/-- R108: all-zero telemetry passes the check in both strategies, with raw angle 0 and no warnings. -/
def Obligations.AllZeroTelemetryPasses : Prop :=
  crcCheck ⟨0, 0, 0, 0⟩ = true ∧
  (∀ (s : State) (a : Answer) (rest : List Answer), s.answers = a :: rest → s.crcEn = true →
    s.params.portStatus a.status = 0 → a.rx2 = 0 → a.rx3 = 0 → a.rx4 = 0 → a.rx5 = 0 →
    ∃ t : State, exec .angleBurst s = .next t ∧ t.kind = 0 ∧ t.crcOk = true ∧ t.rawAngle = 0 ∧ t.warn = 0) ∧
  (∀ (s : State) (a b c d : Answer) (rest : List Answer), s.answers = a :: b :: c :: d :: rest → s.crcEn = true →
    (∀ x ∈ [a, b, c, d], s.params.portStatus x.status = 0 ∧ x.rx2 = 0) →
    ∃ t : State, exec .angleDiscrete s = .next t ∧ t.kind = 0 ∧ t.crcOk = true ∧ t.rawAngle = 0 ∧ t.warn = 0)

/-! ## Acknowledged commands (43_commands.md) -/

/-- R170, R172: AUTO_ZERO on every answered transfer: acknowledged, not acknowledged, failed; nothing else changes. -/
def Obligations.AutoZeroOutcome : Prop :=
  encode .autoZero = 0x00000007 ∧
  ∀ (s : State) (a : Answer) (rest : List Answer), s.answers = a :: rest →
    ∃ t : State,
      t = transacted s (putFrame s s.params.cmdAutoZero s.params.regCmdAck 0x00)
            [commandByte s.params.cmdAutoZero, s.params.regCmdAck, 0x00] (s.params.portStatus a.status)
            [a.rx0, a.rx1, a.rx2] rest ∧
      (s.params.portStatus a.status = 0 → a.rx2 = 0x55 →
        exec .autoZero s = .next { t with kind := 0, xferCode := 0 }) ∧
      (s.params.portStatus a.status = 0 → a.rx2 ≠ 0x55 →
        exec .autoZero s = .next { t with kind := 1, xferCode := 0 }) ∧
      (s.params.portStatus a.status ≠ 0 →
        exec .autoZero s = .next { t with kind := 6, xferCode := s.params.portStatus a.status })

/-- R171, R172: PROG_EEPROM on every answered transfer: acknowledged, not acknowledged, failed; one transaction, never
reissued; nothing else changes. -/
def Obligations.ProgEepromOutcome : Prop :=
  encode .progEeprom = 0x00000008 ∧
  ∀ (s : State) (a : Answer) (rest : List Answer), s.answers = a :: rest →
    ∃ t : State,
      t = transacted s (putFrame s s.params.cmdProgEeprom s.params.regCmdAck 0x00)
            [commandByte s.params.cmdProgEeprom, s.params.regCmdAck, 0x00] (s.params.portStatus a.status)
            [a.rx0, a.rx1, a.rx2] rest ∧
      (s.params.portStatus a.status = 0 → a.rx2 = 0x55 →
        exec .progEeprom s = .next { t with kind := 0, xferCode := 0 }) ∧
      (s.params.portStatus a.status = 0 → a.rx2 ≠ 0x55 →
        exec .progEeprom s = .next { t with kind := 1, xferCode := 0 }) ∧
      (s.params.portStatus a.status ≠ 0 →
        exec .progEeprom s = .next { t with kind := 6, xferCode := s.params.portStatus a.status })

/-! ## All operations -/

/-- R15, R219: every operation answers a next state in every state, and with four answers to come it has ended, with CS
deasserted if it used the bus, in one of the results R180 gives that operation. -/
def Obligations.EveryOperationEnds : Prop :=
  ∀ (i : Instr) (s : State), ∃ t : State, exec i s = .next t ∧
    (4 ≤ s.answers.length → t.busy = false ∧ t.kind ∈ resultsOf i s.crcEn ∧ (t.bus ≠ s.bus → t.cs = false))

/-- R43: which operation writes which register, and what no operation writes. An operation that is left waiting (R126) has
written no result. -/
def Obligations.OperationsWriteOnlyTheirRegisters : Prop :=
  ∀ (i : Instr) (s t : State), exec i s = .next t →
    (i.mnemonic ≠ .readReg → t.resultData = s.resultData) ∧
    (i.mnemonic ≠ .angleDiscrete → i.mnemonic ≠ .angleBurst →
      t.rawAngle = s.rawAngle ∧ t.warn = s.warn ∧ t.crcOk = s.crcOk ∧ t.layout = s.layout) ∧
    (s.crcEn = false → t.crcOk = s.crcOk) ∧
    (i.mnemonic ≠ .crcInit → i.mnemonic ≠ .crcStep → t.crcAcc = s.crcAcc) ∧
    (i.mnemonic = .crcInit ∨ i.mnemonic = .crcStep →
      t.frame = s.frame ∧ t.cs = s.cs ∧ t.bus = s.bus ∧ t.answers = s.answers) ∧
    (i.mnemonic ∉ [.writeReg, .autoZero, .progEeprom] → t.frame.data = s.frame.data) ∧
    t.frame.trail = s.frame.trail ∧
    (t.kind ∉ [0, 5] → t.busy = false → t.rawAngle = s.rawAngle ∧ t.warn = s.warn ∧ t.crcOk = s.crcOk ∧
      t.resultData = s.resultData) ∧
    (t.kind = 5 → t.busy = false → t.rawAngle = s.rawAngle ∧ t.warn = s.warn) ∧
    (t.busy = true → t.kind = s.kind ∧ t.xferCode = s.xferCode ∧ t.resultData = s.resultData ∧
      t.rawAngle = s.rawAngle ∧ t.warn = s.warn ∧ t.crcOk = s.crcOk ∧ t.crcAcc = s.crcAcc) ∧
    t.params = s.params ∧ t.crcEn = s.crcEn ∧ t.cfgCrcEn = s.cfgCrcEn ∧ t.inputs = s.inputs ∧ t.rq = s.rq ∧
    t.rdata = s.rdata ∧ t.draws = s.draws

/-- R78, R79, 20_memory.md R52: what an operation does depends on no received byte but those the spec names for it, and on
no received byte of a failed transfer: with answers that agree in status, and where it is 0 in the bytes the operation
consults (none for WRITE_REG), the outcomes differ only in the values of the received bytes, in RXB and in the trace: the
same events, bytes sent, statuses and lengths, and as many answers used up. -/
def Obligations.UnconsultedBytesDoNotMatter : Prop :=
  ∀ (i : Instr) (s : State) (as bs : List Answer),
    List.Forall₂ (fun a b => s.params.portStatus a.status = s.params.portStatus b.status ∧
      (s.params.portStatus a.status = 0 → SameConsulted i s.crcEn a b)) as bs →
    ∃ (t u : State) (used : Nat),
      exec i { s with answers := as } = .next t ∧ exec i { s with answers := bs } = .next u ∧
      t.answers = as.drop used ∧ u.answers = bs.drop used ∧
      u.bus.map BusEvent.erased = t.bus.map BusEvent.erased ∧ u.rxb.length = t.rxb.length ∧
      u = { t with rxb := u.rxb, bus := u.bus, answers := u.answers }

/-- 10_state.md R39: no operation reads the value L, TXB, RXB, the transfer status or IDX had before it: the outcomes differ
at most in what they leave in these. -/
def Obligations.HiddenBuffersDoNotLeak : Prop :=
  ∀ (i : Instr) (s : State) (l : Layout) (tx rx : List Byte) (st : Word) (k : Nat), ∃ t u : State,
    exec i s = .next t ∧ exec i { s with layout := l, txb := tx, rxb := rx, xst := st, idx := k } = .next u ∧
    u = { t with layout := u.layout, txb := u.txb, rxb := u.rxb, xst := u.xst, idx := u.idx }

/-- 10_state.md R42, 60_exceptions.md R186: no operation reads KIND, XFER_CODE, CRC_OK or WARN as an input: the outcomes
differ at most in these, and not in KIND and XFER_CODE once the operation has ended. -/
def Obligations.FlagsAreNoInput : Prop :=
  ∀ (i : Instr) (s : State) (k : BitVec 3) (c : Word) (ok : Bool) (w : Warn), ∃ t u : State,
    exec i s = .next t ∧ exec i { s with kind := k, xferCode := c, crcOk := ok, warn := w } = .next u ∧
    u = { t with kind := u.kind, xferCode := u.xferCode, crcOk := u.crcOk, warn := u.warn } ∧
    (t.busy = false → u.kind = t.kind ∧ u.xferCode = t.xferCode)

/-- 60_exceptions.md R181, R180: no step writes HandleNull, PointerNull or 7 to KIND. -/
def Obligations.NeverWritesReservedKinds : Prop :=
  ∀ s t : State, step s = .next t → t.kind ≠ s.kind → t.kind ≠ 2 ∧ t.kind ≠ 3 ∧ t.kind ≠ 7

/-! ## The sequencer, the invariant, the bus protocol -/

/-- R22, R60: run event by event from the accepted REQ write, every request ends (or waits) in the very state in which its
whole-operation meaning ends (or waits): same registers, same hidden state, same trace. The whole form is the
model's choice of step (log 2), the cuts of PHASE are read from the pseudocode (log 15). -/
def Obligations.EventsReachOperationOutcome : Prop :=
  ∀ (w : Word) (s : State), runRequest w s = .next (advances eventBound (latch w s))

/-- R22, R81, R82: a program's REQ write followed by its WAIT reaches, step by step, the outcome the request has as one
line, if the operation ends. The request as one line is the model's choice (log 2). -/
def Obligations.WriteThenWaitReachesOutcome : Prop :=
  ∀ (s t : State) (w : Word) (rest : List Input), s.phase = .idle → s.inputs = .issue w :: .wait :: rest →
    step { s with inputs := .request w :: rest } = .next t → t.busy = false →
    ∃ n, Sys2Proof.core.run n s = .next t

/-- The invariant holds at power-on of every instance, so at reset (log 6, log 7: for the hidden registers and the model's
own fields the value at reset is the model's choice). -/
def Obligations.PowerOnMeetsInvariant : Prop :=
  (∀ (p : Params) (c : Bool), (State.powerOn p c).Inv) ∧ State.reset.Inv

/-- Every step keeps the invariant, whatever the parameters, the transport's answers and the outside acts (its clause on
`held` is about the model's own field, log 10). -/
def Obligations.StepKeepsInvariant : Prop :=
  ∀ s t : State, s.Inv → step s = .next t → t.Inv

/-- No step from a state that meets the invariant raises a fault (the one fault is the model's, log 13). -/
def Obligations.InvariantStatesAreSafe : Prop :=
  ∀ s : State, s.Inv → s.Safe

/-- R123, R124 from the invariant's trace: every Xfer comes right after CsWrite(0), CsWrite(1) and right before CsWrite(0),
every CsWrite(1) comes right after CsWrite(0) and right before one Xfer (unless it is the last event so far, or reset cuts
in), and an IDLE block has CS = 0. -/
def Obligations.ChipSelectContract : Prop :=
  ∀ s : State, s.Inv →
    (∀ pre tx st rx post, s.bus = pre ++ .xfer tx st rx :: post →
      (∃ pre', pre = pre' ++ [.csWrite false, .csWrite true]) ∧
      (post = [] ∨ (∃ post', post = .csWrite false :: post') ∨ ∃ post', post = .reset :: post')) ∧
    (∀ pre post, s.bus = pre ++ .csWrite true :: post →
      (∃ pre', pre = pre' ++ [.csWrite false]) ∧
      (post = [] ∨ (∃ tx st rx post', post = .xfer tx st rx :: post') ∨ ∃ post', post = .reset :: post')) ∧
    (s.phase = .idle → s.cs = false)
end

