-- ==== Sys2Proof/Laws/State.lean ====
section
/-! SUPPORT. One lemma per field per shared update of State, so that no proof unfolds a record update. -/

namespace Sys2Proof.Machine

/-! ### noteView -/

@[simp] theorem noteView_params (s : State) : (noteView s).params = s.params := rfl
@[simp] theorem noteView_kind (s : State) : (noteView s).kind = s.kind := rfl
@[simp] theorem noteView_crcEn (s : State) : (noteView s).crcEn = s.crcEn := rfl
@[simp] theorem noteView_crcOk (s : State) : (noteView s).crcOk = s.crcOk := rfl
@[simp] theorem noteView_warn (s : State) : (noteView s).warn = s.warn := rfl
@[simp] theorem noteView_cs (s : State) : (noteView s).cs = s.cs := rfl
@[simp] theorem noteView_xferCode (s : State) : (noteView s).xferCode = s.xferCode := rfl
@[simp] theorem noteView_resultData (s : State) : (noteView s).resultData = s.resultData := rfl
@[simp] theorem noteView_rawAngle (s : State) : (noteView s).rawAngle = s.rawAngle := rfl
@[simp] theorem noteView_frame (s : State) : (noteView s).frame = s.frame := rfl
@[simp] theorem noteView_crcAcc (s : State) : (noteView s).crcAcc = s.crcAcc := rfl
@[simp] theorem noteView_phase (s : State) : (noteView s).phase = s.phase := rfl
@[simp] theorem noteView_rq (s : State) : (noteView s).rq = s.rq := rfl
@[simp] theorem noteView_layout (s : State) : (noteView s).layout = s.layout := rfl
@[simp] theorem noteView_txb (s : State) : (noteView s).txb = s.txb := rfl
@[simp] theorem noteView_rxb (s : State) : (noteView s).rxb = s.rxb := rfl
@[simp] theorem noteView_xst (s : State) : (noteView s).xst = s.xst := rfl
@[simp] theorem noteView_idx (s : State) : (noteView s).idx = s.idx := rfl
@[simp] theorem noteView_cfgCrcEn (s : State) : (noteView s).cfgCrcEn = s.cfgCrcEn := rfl
@[simp] theorem noteView_inputs (s : State) : (noteView s).inputs = s.inputs := rfl
@[simp] theorem noteView_answers (s : State) : (noteView s).answers = s.answers := rfl
@[simp] theorem noteView_bus (s : State) : (noteView s).bus = s.bus := rfl
@[simp] theorem noteView_held (s : State) : (noteView s).held = s.held ++ [⟨s.frame, s.cs⟩] := rfl
@[simp] theorem noteView_draws (s : State) : (noteView s).draws = s.draws := rfl
@[simp] theorem noteView_rdata (s : State) : (noteView s).rdata = s.rdata := rfl

/-! ### csWrite -/

@[simp] theorem csWrite_params (a : Bool) (s : State) : (csWrite a s).params = s.params := rfl
@[simp] theorem csWrite_kind (a : Bool) (s : State) : (csWrite a s).kind = s.kind := rfl
@[simp] theorem csWrite_crcEn (a : Bool) (s : State) : (csWrite a s).crcEn = s.crcEn := rfl
@[simp] theorem csWrite_crcOk (a : Bool) (s : State) : (csWrite a s).crcOk = s.crcOk := rfl
@[simp] theorem csWrite_warn (a : Bool) (s : State) : (csWrite a s).warn = s.warn := rfl
@[simp] theorem csWrite_cs (a : Bool) (s : State) : (csWrite a s).cs = a := rfl
@[simp] theorem csWrite_xferCode (a : Bool) (s : State) : (csWrite a s).xferCode = s.xferCode := rfl
@[simp] theorem csWrite_resultData (a : Bool) (s : State) : (csWrite a s).resultData = s.resultData := rfl
@[simp] theorem csWrite_rawAngle (a : Bool) (s : State) : (csWrite a s).rawAngle = s.rawAngle := rfl
@[simp] theorem csWrite_frame (a : Bool) (s : State) : (csWrite a s).frame = s.frame := rfl
@[simp] theorem csWrite_crcAcc (a : Bool) (s : State) : (csWrite a s).crcAcc = s.crcAcc := rfl
@[simp] theorem csWrite_phase (a : Bool) (s : State) : (csWrite a s).phase = s.phase := rfl
@[simp] theorem csWrite_rq (a : Bool) (s : State) : (csWrite a s).rq = s.rq := rfl
@[simp] theorem csWrite_layout (a : Bool) (s : State) : (csWrite a s).layout = s.layout := rfl
@[simp] theorem csWrite_txb (a : Bool) (s : State) : (csWrite a s).txb = s.txb := rfl
@[simp] theorem csWrite_rxb (a : Bool) (s : State) : (csWrite a s).rxb = s.rxb := rfl
@[simp] theorem csWrite_xst (a : Bool) (s : State) : (csWrite a s).xst = s.xst := rfl
@[simp] theorem csWrite_idx (a : Bool) (s : State) : (csWrite a s).idx = s.idx := rfl
@[simp] theorem csWrite_cfgCrcEn (a : Bool) (s : State) : (csWrite a s).cfgCrcEn = s.cfgCrcEn := rfl
@[simp] theorem csWrite_inputs (a : Bool) (s : State) : (csWrite a s).inputs = s.inputs := rfl
@[simp] theorem csWrite_answers (a : Bool) (s : State) : (csWrite a s).answers = s.answers := rfl
@[simp] theorem csWrite_bus (a : Bool) (s : State) : (csWrite a s).bus = s.bus ++ [.csWrite a] := rfl
@[simp] theorem csWrite_held (a : Bool) (s : State) : (csWrite a s).held = s.held ++ [⟨s.frame, a⟩] := rfl
@[simp] theorem csWrite_draws (a : Bool) (s : State) : (csWrite a s).draws = s.draws := rfl
@[simp] theorem csWrite_rdata (a : Bool) (s : State) : (csWrite a s).rdata = s.rdata := rfl

/-! ### compose -/

@[simp] theorem compose_params (cmd : Nibble) (reg : Byte) (data : DataArg) (s : State) : (compose cmd reg data s).params = s.params := rfl
@[simp] theorem compose_kind (cmd : Nibble) (reg : Byte) (data : DataArg) (s : State) : (compose cmd reg data s).kind = s.kind := rfl
@[simp] theorem compose_crcEn (cmd : Nibble) (reg : Byte) (data : DataArg) (s : State) : (compose cmd reg data s).crcEn = s.crcEn := rfl
@[simp] theorem compose_crcOk (cmd : Nibble) (reg : Byte) (data : DataArg) (s : State) : (compose cmd reg data s).crcOk = s.crcOk := rfl
@[simp] theorem compose_warn (cmd : Nibble) (reg : Byte) (data : DataArg) (s : State) : (compose cmd reg data s).warn = s.warn := rfl
@[simp] theorem compose_cs (cmd : Nibble) (reg : Byte) (data : DataArg) (s : State) : (compose cmd reg data s).cs = s.cs := rfl
@[simp] theorem compose_xferCode (cmd : Nibble) (reg : Byte) (data : DataArg) (s : State) : (compose cmd reg data s).xferCode = s.xferCode := rfl
@[simp] theorem compose_resultData (cmd : Nibble) (reg : Byte) (data : DataArg) (s : State) : (compose cmd reg data s).resultData = s.resultData := rfl
@[simp] theorem compose_rawAngle (cmd : Nibble) (reg : Byte) (data : DataArg) (s : State) : (compose cmd reg data s).rawAngle = s.rawAngle := rfl
@[simp] theorem compose_frame (cmd : Nibble) (reg : Byte) (data : DataArg) (s : State) : (compose cmd reg data s).frame = s.frame.composed cmd reg data := rfl
@[simp] theorem compose_crcAcc (cmd : Nibble) (reg : Byte) (data : DataArg) (s : State) : (compose cmd reg data s).crcAcc = s.crcAcc := rfl
@[simp] theorem compose_phase (cmd : Nibble) (reg : Byte) (data : DataArg) (s : State) : (compose cmd reg data s).phase = s.phase := rfl
@[simp] theorem compose_rq (cmd : Nibble) (reg : Byte) (data : DataArg) (s : State) : (compose cmd reg data s).rq = s.rq := rfl
@[simp] theorem compose_layout (cmd : Nibble) (reg : Byte) (data : DataArg) (s : State) : (compose cmd reg data s).layout = s.layout := rfl
@[simp] theorem compose_txb (cmd : Nibble) (reg : Byte) (data : DataArg) (s : State) : (compose cmd reg data s).txb = s.txb := rfl
@[simp] theorem compose_rxb (cmd : Nibble) (reg : Byte) (data : DataArg) (s : State) : (compose cmd reg data s).rxb = s.rxb := rfl
@[simp] theorem compose_xst (cmd : Nibble) (reg : Byte) (data : DataArg) (s : State) : (compose cmd reg data s).xst = s.xst := rfl
@[simp] theorem compose_idx (cmd : Nibble) (reg : Byte) (data : DataArg) (s : State) : (compose cmd reg data s).idx = s.idx := rfl
@[simp] theorem compose_cfgCrcEn (cmd : Nibble) (reg : Byte) (data : DataArg) (s : State) : (compose cmd reg data s).cfgCrcEn = s.cfgCrcEn := rfl
@[simp] theorem compose_inputs (cmd : Nibble) (reg : Byte) (data : DataArg) (s : State) : (compose cmd reg data s).inputs = s.inputs := rfl
@[simp] theorem compose_answers (cmd : Nibble) (reg : Byte) (data : DataArg) (s : State) : (compose cmd reg data s).answers = s.answers := rfl
@[simp] theorem compose_bus (cmd : Nibble) (reg : Byte) (data : DataArg) (s : State) : (compose cmd reg data s).bus = s.bus := rfl
@[simp] theorem compose_held (cmd : Nibble) (reg : Byte) (data : DataArg) (s : State) : (compose cmd reg data s).held = s.held ++ [⟨s.frame.composed cmd reg data, s.cs⟩] := rfl
@[simp] theorem compose_draws (cmd : Nibble) (reg : Byte) (data : DataArg) (s : State) : (compose cmd reg data s).draws = s.draws := rfl
@[simp] theorem compose_rdata (cmd : Nibble) (reg : Byte) (data : DataArg) (s : State) : (compose cmd reg data s).rdata = s.rdata := rfl

/-! ### loadTx -/

@[simp] theorem loadTx_params (n : Nat) (s : State) : (loadTx n s).params = s.params := rfl
@[simp] theorem loadTx_kind (n : Nat) (s : State) : (loadTx n s).kind = s.kind := rfl
@[simp] theorem loadTx_crcEn (n : Nat) (s : State) : (loadTx n s).crcEn = s.crcEn := rfl
@[simp] theorem loadTx_crcOk (n : Nat) (s : State) : (loadTx n s).crcOk = s.crcOk := rfl
@[simp] theorem loadTx_warn (n : Nat) (s : State) : (loadTx n s).warn = s.warn := rfl
@[simp] theorem loadTx_cs (n : Nat) (s : State) : (loadTx n s).cs = s.cs := rfl
@[simp] theorem loadTx_xferCode (n : Nat) (s : State) : (loadTx n s).xferCode = s.xferCode := rfl
@[simp] theorem loadTx_resultData (n : Nat) (s : State) : (loadTx n s).resultData = s.resultData := rfl
@[simp] theorem loadTx_rawAngle (n : Nat) (s : State) : (loadTx n s).rawAngle = s.rawAngle := rfl
@[simp] theorem loadTx_frame (n : Nat) (s : State) : (loadTx n s).frame = s.frame := rfl
@[simp] theorem loadTx_crcAcc (n : Nat) (s : State) : (loadTx n s).crcAcc = s.crcAcc := rfl
@[simp] theorem loadTx_phase (n : Nat) (s : State) : (loadTx n s).phase = s.phase := rfl
@[simp] theorem loadTx_rq (n : Nat) (s : State) : (loadTx n s).rq = s.rq := rfl
@[simp] theorem loadTx_layout (n : Nat) (s : State) : (loadTx n s).layout = s.layout := rfl
@[simp] theorem loadTx_txb (n : Nat) (s : State) : (loadTx n s).txb = txBytes n s.frame := rfl
@[simp] theorem loadTx_rxb (n : Nat) (s : State) : (loadTx n s).rxb = s.rxb := rfl
@[simp] theorem loadTx_xst (n : Nat) (s : State) : (loadTx n s).xst = s.xst := rfl
@[simp] theorem loadTx_idx (n : Nat) (s : State) : (loadTx n s).idx = s.idx := rfl
@[simp] theorem loadTx_cfgCrcEn (n : Nat) (s : State) : (loadTx n s).cfgCrcEn = s.cfgCrcEn := rfl
@[simp] theorem loadTx_inputs (n : Nat) (s : State) : (loadTx n s).inputs = s.inputs := rfl
@[simp] theorem loadTx_answers (n : Nat) (s : State) : (loadTx n s).answers = s.answers := rfl
@[simp] theorem loadTx_bus (n : Nat) (s : State) : (loadTx n s).bus = s.bus := rfl
@[simp] theorem loadTx_held (n : Nat) (s : State) : (loadTx n s).held = s.held := rfl
@[simp] theorem loadTx_draws (n : Nat) (s : State) : (loadTx n s).draws = s.draws := rfl
@[simp] theorem loadTx_rdata (n : Nat) (s : State) : (loadTx n s).rdata = s.rdata := rfl

/-! ### takeAnswer -/

@[simp] theorem takeAnswer_params (a : Answer) (rest : List Answer) (s : State) : (takeAnswer a rest s).params = s.params := rfl
@[simp] theorem takeAnswer_kind (a : Answer) (rest : List Answer) (s : State) : (takeAnswer a rest s).kind = s.kind := rfl
@[simp] theorem takeAnswer_crcEn (a : Answer) (rest : List Answer) (s : State) : (takeAnswer a rest s).crcEn = s.crcEn := rfl
@[simp] theorem takeAnswer_crcOk (a : Answer) (rest : List Answer) (s : State) : (takeAnswer a rest s).crcOk = s.crcOk := rfl
@[simp] theorem takeAnswer_warn (a : Answer) (rest : List Answer) (s : State) : (takeAnswer a rest s).warn = s.warn := rfl
@[simp] theorem takeAnswer_cs (a : Answer) (rest : List Answer) (s : State) : (takeAnswer a rest s).cs = s.cs := rfl
@[simp] theorem takeAnswer_xferCode (a : Answer) (rest : List Answer) (s : State) : (takeAnswer a rest s).xferCode = s.xferCode := rfl
@[simp] theorem takeAnswer_resultData (a : Answer) (rest : List Answer) (s : State) : (takeAnswer a rest s).resultData = s.resultData := rfl
@[simp] theorem takeAnswer_rawAngle (a : Answer) (rest : List Answer) (s : State) : (takeAnswer a rest s).rawAngle = s.rawAngle := rfl
@[simp] theorem takeAnswer_frame (a : Answer) (rest : List Answer) (s : State) : (takeAnswer a rest s).frame = s.frame := rfl
@[simp] theorem takeAnswer_crcAcc (a : Answer) (rest : List Answer) (s : State) : (takeAnswer a rest s).crcAcc = s.crcAcc := rfl
@[simp] theorem takeAnswer_phase (a : Answer) (rest : List Answer) (s : State) : (takeAnswer a rest s).phase = s.phase := rfl
@[simp] theorem takeAnswer_rq (a : Answer) (rest : List Answer) (s : State) : (takeAnswer a rest s).rq = s.rq := rfl
@[simp] theorem takeAnswer_layout (a : Answer) (rest : List Answer) (s : State) : (takeAnswer a rest s).layout = s.layout := rfl
@[simp] theorem takeAnswer_txb (a : Answer) (rest : List Answer) (s : State) : (takeAnswer a rest s).txb = s.txb := rfl
@[simp] theorem takeAnswer_rxb (a : Answer) (rest : List Answer) (s : State) : (takeAnswer a rest s).rxb = a.bytes s.txb.length := rfl
@[simp] theorem takeAnswer_xst (a : Answer) (rest : List Answer) (s : State) : (takeAnswer a rest s).xst = s.params.portStatus a.status := rfl
@[simp] theorem takeAnswer_idx (a : Answer) (rest : List Answer) (s : State) : (takeAnswer a rest s).idx = s.idx := rfl
@[simp] theorem takeAnswer_cfgCrcEn (a : Answer) (rest : List Answer) (s : State) : (takeAnswer a rest s).cfgCrcEn = s.cfgCrcEn := rfl
@[simp] theorem takeAnswer_inputs (a : Answer) (rest : List Answer) (s : State) : (takeAnswer a rest s).inputs = s.inputs := rfl
@[simp] theorem takeAnswer_answers (a : Answer) (rest : List Answer) (s : State) : (takeAnswer a rest s).answers = rest := rfl
@[simp] theorem takeAnswer_bus (a : Answer) (rest : List Answer) (s : State) : (takeAnswer a rest s).bus = s.bus ++ [.xfer s.txb (s.params.portStatus a.status) (a.bytes s.txb.length)] := rfl
@[simp] theorem takeAnswer_held (a : Answer) (rest : List Answer) (s : State) : (takeAnswer a rest s).held = s.held := rfl
@[simp] theorem takeAnswer_draws (a : Answer) (rest : List Answer) (s : State) : (takeAnswer a rest s).draws = s.draws := rfl
@[simp] theorem takeAnswer_rdata (a : Answer) (rest : List Answer) (s : State) : (takeAnswer a rest s).rdata = s.rdata := rfl

/-! ### finish -/

@[simp] theorem finish_params (s : State) : (finish s).params = s.params := rfl
@[simp] theorem finish_kind (s : State) : (finish s).kind = s.kind := rfl
@[simp] theorem finish_crcEn (s : State) : (finish s).crcEn = s.crcEn := rfl
@[simp] theorem finish_crcOk (s : State) : (finish s).crcOk = s.crcOk := rfl
@[simp] theorem finish_warn (s : State) : (finish s).warn = s.warn := rfl
@[simp] theorem finish_cs (s : State) : (finish s).cs = s.cs := rfl
@[simp] theorem finish_xferCode (s : State) : (finish s).xferCode = s.xferCode := rfl
@[simp] theorem finish_resultData (s : State) : (finish s).resultData = s.resultData := rfl
@[simp] theorem finish_rawAngle (s : State) : (finish s).rawAngle = s.rawAngle := rfl
@[simp] theorem finish_frame (s : State) : (finish s).frame = s.frame := rfl
@[simp] theorem finish_crcAcc (s : State) : (finish s).crcAcc = s.crcAcc := rfl
@[simp] theorem finish_phase (s : State) : (finish s).phase = .idle := rfl
@[simp] theorem finish_rq (s : State) : (finish s).rq = s.rq := rfl
@[simp] theorem finish_layout (s : State) : (finish s).layout = s.layout := rfl
@[simp] theorem finish_txb (s : State) : (finish s).txb = s.txb := rfl
@[simp] theorem finish_rxb (s : State) : (finish s).rxb = s.rxb := rfl
@[simp] theorem finish_xst (s : State) : (finish s).xst = s.xst := rfl
@[simp] theorem finish_idx (s : State) : (finish s).idx = s.idx := rfl
@[simp] theorem finish_cfgCrcEn (s : State) : (finish s).cfgCrcEn = s.cfgCrcEn := rfl
@[simp] theorem finish_inputs (s : State) : (finish s).inputs = s.inputs := rfl
@[simp] theorem finish_answers (s : State) : (finish s).answers = s.answers := rfl
@[simp] theorem finish_bus (s : State) : (finish s).bus = s.bus := rfl
@[simp] theorem finish_held (s : State) : (finish s).held = [] := rfl
@[simp] theorem finish_draws (s : State) : (finish s).draws = s.draws := rfl
@[simp] theorem finish_rdata (s : State) : (finish s).rdata = s.rdata := rfl

/-! ### complete -/

@[simp] theorem complete_params (s : State) : (complete s).params = s.params := rfl
@[simp] theorem complete_kind (s : State) : (complete s).kind = 0 := rfl
@[simp] theorem complete_crcEn (s : State) : (complete s).crcEn = s.crcEn := rfl
@[simp] theorem complete_crcOk (s : State) : (complete s).crcOk = s.crcOk := rfl
@[simp] theorem complete_warn (s : State) : (complete s).warn = s.warn := rfl
@[simp] theorem complete_cs (s : State) : (complete s).cs = s.cs := rfl
@[simp] theorem complete_xferCode (s : State) : (complete s).xferCode = 0 := rfl
@[simp] theorem complete_resultData (s : State) : (complete s).resultData = s.resultData := rfl
@[simp] theorem complete_rawAngle (s : State) : (complete s).rawAngle = s.rawAngle := rfl
@[simp] theorem complete_frame (s : State) : (complete s).frame = s.frame := rfl
@[simp] theorem complete_crcAcc (s : State) : (complete s).crcAcc = s.crcAcc := rfl
@[simp] theorem complete_phase (s : State) : (complete s).phase = .idle := rfl
@[simp] theorem complete_rq (s : State) : (complete s).rq = s.rq := rfl
@[simp] theorem complete_layout (s : State) : (complete s).layout = s.layout := rfl
@[simp] theorem complete_txb (s : State) : (complete s).txb = s.txb := rfl
@[simp] theorem complete_rxb (s : State) : (complete s).rxb = s.rxb := rfl
@[simp] theorem complete_xst (s : State) : (complete s).xst = s.xst := rfl
@[simp] theorem complete_idx (s : State) : (complete s).idx = s.idx := rfl
@[simp] theorem complete_cfgCrcEn (s : State) : (complete s).cfgCrcEn = s.cfgCrcEn := rfl
@[simp] theorem complete_inputs (s : State) : (complete s).inputs = s.inputs := rfl
@[simp] theorem complete_answers (s : State) : (complete s).answers = s.answers := rfl
@[simp] theorem complete_bus (s : State) : (complete s).bus = s.bus := rfl
@[simp] theorem complete_held (s : State) : (complete s).held = [] := rfl
@[simp] theorem complete_draws (s : State) : (complete s).draws = s.draws := rfl
@[simp] theorem complete_rdata (s : State) : (complete s).rdata = s.rdata := rfl

/-! ### raise -/

@[simp] theorem raise_params (k : Kind) (st : Word) (s : State) : (raise k st s).params = s.params := rfl
@[simp] theorem raise_kind (k : Kind) (st : Word) (s : State) : (raise k st s).kind = k.code := rfl
@[simp] theorem raise_crcEn (k : Kind) (st : Word) (s : State) : (raise k st s).crcEn = s.crcEn := rfl
@[simp] theorem raise_crcOk (k : Kind) (st : Word) (s : State) : (raise k st s).crcOk = s.crcOk := rfl
@[simp] theorem raise_warn (k : Kind) (st : Word) (s : State) : (raise k st s).warn = s.warn := rfl
@[simp] theorem raise_cs (k : Kind) (st : Word) (s : State) : (raise k st s).cs = s.cs := rfl
@[simp] theorem raise_xferCode (k : Kind) (st : Word) (s : State) : (raise k st s).xferCode = if k = .transport then st else 0 := rfl
@[simp] theorem raise_resultData (k : Kind) (st : Word) (s : State) : (raise k st s).resultData = s.resultData := rfl
@[simp] theorem raise_rawAngle (k : Kind) (st : Word) (s : State) : (raise k st s).rawAngle = s.rawAngle := rfl
@[simp] theorem raise_frame (k : Kind) (st : Word) (s : State) : (raise k st s).frame = s.frame := rfl
@[simp] theorem raise_crcAcc (k : Kind) (st : Word) (s : State) : (raise k st s).crcAcc = s.crcAcc := rfl
@[simp] theorem raise_phase (k : Kind) (st : Word) (s : State) : (raise k st s).phase = .idle := rfl
@[simp] theorem raise_rq (k : Kind) (st : Word) (s : State) : (raise k st s).rq = s.rq := rfl
@[simp] theorem raise_layout (k : Kind) (st : Word) (s : State) : (raise k st s).layout = s.layout := rfl
@[simp] theorem raise_txb (k : Kind) (st : Word) (s : State) : (raise k st s).txb = s.txb := rfl
@[simp] theorem raise_rxb (k : Kind) (st : Word) (s : State) : (raise k st s).rxb = s.rxb := rfl
@[simp] theorem raise_xst (k : Kind) (st : Word) (s : State) : (raise k st s).xst = s.xst := rfl
@[simp] theorem raise_idx (k : Kind) (st : Word) (s : State) : (raise k st s).idx = s.idx := rfl
@[simp] theorem raise_cfgCrcEn (k : Kind) (st : Word) (s : State) : (raise k st s).cfgCrcEn = s.cfgCrcEn := rfl
@[simp] theorem raise_inputs (k : Kind) (st : Word) (s : State) : (raise k st s).inputs = s.inputs := rfl
@[simp] theorem raise_answers (k : Kind) (st : Word) (s : State) : (raise k st s).answers = s.answers := rfl
@[simp] theorem raise_bus (k : Kind) (st : Word) (s : State) : (raise k st s).bus = s.bus := rfl
@[simp] theorem raise_held (k : Kind) (st : Word) (s : State) : (raise k st s).held = [] := rfl
@[simp] theorem raise_draws (k : Kind) (st : Word) (s : State) : (raise k st s).draws = s.draws := rfl
@[simp] theorem raise_rdata (k : Kind) (st : Word) (s : State) : (raise k st s).rdata = s.rdata := rfl

/-! ### latch -/

@[simp] theorem latch_params (w : Word) (s : State) : (latch w s).params = s.params := rfl
@[simp] theorem latch_kind (w : Word) (s : State) : (latch w s).kind = s.kind := rfl
@[simp] theorem latch_crcEn (w : Word) (s : State) : (latch w s).crcEn = s.crcEn := rfl
@[simp] theorem latch_crcOk (w : Word) (s : State) : (latch w s).crcOk = s.crcOk := rfl
@[simp] theorem latch_warn (w : Word) (s : State) : (latch w s).warn = s.warn := rfl
@[simp] theorem latch_cs (w : Word) (s : State) : (latch w s).cs = s.cs := rfl
@[simp] theorem latch_xferCode (w : Word) (s : State) : (latch w s).xferCode = s.xferCode := rfl
@[simp] theorem latch_resultData (w : Word) (s : State) : (latch w s).resultData = s.resultData := rfl
@[simp] theorem latch_rawAngle (w : Word) (s : State) : (latch w s).rawAngle = s.rawAngle := rfl
@[simp] theorem latch_frame (w : Word) (s : State) : (latch w s).frame = s.frame := rfl
@[simp] theorem latch_crcAcc (w : Word) (s : State) : (latch w s).crcAcc = s.crcAcc := rfl
@[simp] theorem latch_phase (w : Word) (s : State) : (latch w s).phase = .decode := rfl
@[simp] theorem latch_rq (w : Word) (s : State) : (latch w s).rq = w := rfl
@[simp] theorem latch_layout (w : Word) (s : State) : (latch w s).layout = s.layout := rfl
@[simp] theorem latch_txb (w : Word) (s : State) : (latch w s).txb = s.txb := rfl
@[simp] theorem latch_rxb (w : Word) (s : State) : (latch w s).rxb = s.rxb := rfl
@[simp] theorem latch_xst (w : Word) (s : State) : (latch w s).xst = s.xst := rfl
@[simp] theorem latch_idx (w : Word) (s : State) : (latch w s).idx = s.idx := rfl
@[simp] theorem latch_cfgCrcEn (w : Word) (s : State) : (latch w s).cfgCrcEn = s.cfgCrcEn := rfl
@[simp] theorem latch_inputs (w : Word) (s : State) : (latch w s).inputs = s.inputs := rfl
@[simp] theorem latch_answers (w : Word) (s : State) : (latch w s).answers = s.answers := rfl
@[simp] theorem latch_bus (w : Word) (s : State) : (latch w s).bus = s.bus := rfl
@[simp] theorem latch_held (w : Word) (s : State) : (latch w s).held = [⟨s.frame, s.cs⟩] := rfl
@[simp] theorem latch_draws (w : Word) (s : State) : (latch w s).draws = s.draws := rfl
@[simp] theorem latch_rdata (w : Word) (s : State) : (latch w s).rdata = s.rdata := rfl

/-! ### publish -/

@[simp] theorem publish_params (s : State) : (publish s).params = s.params := rfl
@[simp] theorem publish_kind (s : State) : (publish s).kind = s.kind := rfl
@[simp] theorem publish_crcEn (s : State) : (publish s).crcEn = s.crcEn := rfl
@[simp] theorem publish_crcOk (s : State) : (publish s).crcOk = s.crcOk := rfl
@[simp] theorem publish_warn (s : State) : (publish s).warn = warnOf s.layout.l2 := rfl
@[simp] theorem publish_cs (s : State) : (publish s).cs = s.cs := rfl
@[simp] theorem publish_xferCode (s : State) : (publish s).xferCode = s.xferCode := rfl
@[simp] theorem publish_resultData (s : State) : (publish s).resultData = s.resultData := rfl
@[simp] theorem publish_rawAngle (s : State) : (publish s).rawAngle = assemble s.layout.l0 s.layout.l1 s.layout.l2 := rfl
@[simp] theorem publish_frame (s : State) : (publish s).frame = s.frame := rfl
@[simp] theorem publish_crcAcc (s : State) : (publish s).crcAcc = s.crcAcc := rfl
@[simp] theorem publish_phase (s : State) : (publish s).phase = s.phase := rfl
@[simp] theorem publish_rq (s : State) : (publish s).rq = s.rq := rfl
@[simp] theorem publish_layout (s : State) : (publish s).layout = s.layout := rfl
@[simp] theorem publish_txb (s : State) : (publish s).txb = s.txb := rfl
@[simp] theorem publish_rxb (s : State) : (publish s).rxb = s.rxb := rfl
@[simp] theorem publish_xst (s : State) : (publish s).xst = s.xst := rfl
@[simp] theorem publish_idx (s : State) : (publish s).idx = s.idx := rfl
@[simp] theorem publish_cfgCrcEn (s : State) : (publish s).cfgCrcEn = s.cfgCrcEn := rfl
@[simp] theorem publish_inputs (s : State) : (publish s).inputs = s.inputs := rfl
@[simp] theorem publish_answers (s : State) : (publish s).answers = s.answers := rfl
@[simp] theorem publish_bus (s : State) : (publish s).bus = s.bus := rfl
@[simp] theorem publish_held (s : State) : (publish s).held = s.held := rfl
@[simp] theorem publish_draws (s : State) : (publish s).draws = s.draws := rfl
@[simp] theorem publish_rdata (s : State) : (publish s).rdata = s.rdata := rfl

/-! ### storeLayout -/

@[simp] theorem storeLayout_params (k : Nat) (rx : List Byte) (s : State) : (storeLayout k rx s).params = s.params := rfl
@[simp] theorem storeLayout_kind (k : Nat) (rx : List Byte) (s : State) : (storeLayout k rx s).kind = s.kind := rfl
@[simp] theorem storeLayout_crcEn (k : Nat) (rx : List Byte) (s : State) : (storeLayout k rx s).crcEn = s.crcEn := rfl
@[simp] theorem storeLayout_crcOk (k : Nat) (rx : List Byte) (s : State) : (storeLayout k rx s).crcOk = s.crcOk := rfl
@[simp] theorem storeLayout_warn (k : Nat) (rx : List Byte) (s : State) : (storeLayout k rx s).warn = s.warn := rfl
@[simp] theorem storeLayout_cs (k : Nat) (rx : List Byte) (s : State) : (storeLayout k rx s).cs = s.cs := rfl
@[simp] theorem storeLayout_xferCode (k : Nat) (rx : List Byte) (s : State) : (storeLayout k rx s).xferCode = s.xferCode := rfl
@[simp] theorem storeLayout_resultData (k : Nat) (rx : List Byte) (s : State) : (storeLayout k rx s).resultData = s.resultData := rfl
@[simp] theorem storeLayout_rawAngle (k : Nat) (rx : List Byte) (s : State) : (storeLayout k rx s).rawAngle = s.rawAngle := rfl
@[simp] theorem storeLayout_frame (k : Nat) (rx : List Byte) (s : State) : (storeLayout k rx s).frame = s.frame := rfl
@[simp] theorem storeLayout_crcAcc (k : Nat) (rx : List Byte) (s : State) : (storeLayout k rx s).crcAcc = s.crcAcc := rfl
@[simp] theorem storeLayout_phase (k : Nat) (rx : List Byte) (s : State) : (storeLayout k rx s).phase = s.phase := rfl
@[simp] theorem storeLayout_rq (k : Nat) (rx : List Byte) (s : State) : (storeLayout k rx s).rq = s.rq := rfl
@[simp] theorem storeLayout_layout (k : Nat) (rx : List Byte) (s : State) : (storeLayout k rx s).layout = s.layout.put k (byteAt rx 2) := rfl
@[simp] theorem storeLayout_txb (k : Nat) (rx : List Byte) (s : State) : (storeLayout k rx s).txb = s.txb := rfl
@[simp] theorem storeLayout_rxb (k : Nat) (rx : List Byte) (s : State) : (storeLayout k rx s).rxb = s.rxb := rfl
@[simp] theorem storeLayout_xst (k : Nat) (rx : List Byte) (s : State) : (storeLayout k rx s).xst = s.xst := rfl
@[simp] theorem storeLayout_idx (k : Nat) (rx : List Byte) (s : State) : (storeLayout k rx s).idx = s.idx := rfl
@[simp] theorem storeLayout_cfgCrcEn (k : Nat) (rx : List Byte) (s : State) : (storeLayout k rx s).cfgCrcEn = s.cfgCrcEn := rfl
@[simp] theorem storeLayout_inputs (k : Nat) (rx : List Byte) (s : State) : (storeLayout k rx s).inputs = s.inputs := rfl
@[simp] theorem storeLayout_answers (k : Nat) (rx : List Byte) (s : State) : (storeLayout k rx s).answers = s.answers := rfl
@[simp] theorem storeLayout_bus (k : Nat) (rx : List Byte) (s : State) : (storeLayout k rx s).bus = s.bus := rfl
@[simp] theorem storeLayout_held (k : Nat) (rx : List Byte) (s : State) : (storeLayout k rx s).held = s.held := rfl
@[simp] theorem storeLayout_draws (k : Nat) (rx : List Byte) (s : State) : (storeLayout k rx s).draws = s.draws := rfl
@[simp] theorem storeLayout_rdata (k : Nat) (rx : List Byte) (s : State) : (storeLayout k rx s).rdata = s.rdata := rfl

/-! ### storeBurst -/

@[simp] theorem storeBurst_params (rx : List Byte) (s : State) : (storeBurst rx s).params = s.params := rfl
@[simp] theorem storeBurst_kind (rx : List Byte) (s : State) : (storeBurst rx s).kind = s.kind := rfl
@[simp] theorem storeBurst_crcEn (rx : List Byte) (s : State) : (storeBurst rx s).crcEn = s.crcEn := rfl
@[simp] theorem storeBurst_crcOk (rx : List Byte) (s : State) : (storeBurst rx s).crcOk = s.crcOk := rfl
@[simp] theorem storeBurst_warn (rx : List Byte) (s : State) : (storeBurst rx s).warn = s.warn := rfl
@[simp] theorem storeBurst_cs (rx : List Byte) (s : State) : (storeBurst rx s).cs = s.cs := rfl
@[simp] theorem storeBurst_xferCode (rx : List Byte) (s : State) : (storeBurst rx s).xferCode = s.xferCode := rfl
@[simp] theorem storeBurst_resultData (rx : List Byte) (s : State) : (storeBurst rx s).resultData = s.resultData := rfl
@[simp] theorem storeBurst_rawAngle (rx : List Byte) (s : State) : (storeBurst rx s).rawAngle = s.rawAngle := rfl
@[simp] theorem storeBurst_frame (rx : List Byte) (s : State) : (storeBurst rx s).frame = s.frame := rfl
@[simp] theorem storeBurst_crcAcc (rx : List Byte) (s : State) : (storeBurst rx s).crcAcc = s.crcAcc := rfl
@[simp] theorem storeBurst_phase (rx : List Byte) (s : State) : (storeBurst rx s).phase = s.phase := rfl
@[simp] theorem storeBurst_rq (rx : List Byte) (s : State) : (storeBurst rx s).rq = s.rq := rfl
@[simp] theorem storeBurst_layout (rx : List Byte) (s : State) : (storeBurst rx s).layout = s.layout.ofBurst s.crcEn rx := rfl
@[simp] theorem storeBurst_txb (rx : List Byte) (s : State) : (storeBurst rx s).txb = s.txb := rfl
@[simp] theorem storeBurst_rxb (rx : List Byte) (s : State) : (storeBurst rx s).rxb = s.rxb := rfl
@[simp] theorem storeBurst_xst (rx : List Byte) (s : State) : (storeBurst rx s).xst = s.xst := rfl
@[simp] theorem storeBurst_idx (rx : List Byte) (s : State) : (storeBurst rx s).idx = s.idx := rfl
@[simp] theorem storeBurst_cfgCrcEn (rx : List Byte) (s : State) : (storeBurst rx s).cfgCrcEn = s.cfgCrcEn := rfl
@[simp] theorem storeBurst_inputs (rx : List Byte) (s : State) : (storeBurst rx s).inputs = s.inputs := rfl
@[simp] theorem storeBurst_answers (rx : List Byte) (s : State) : (storeBurst rx s).answers = s.answers := rfl
@[simp] theorem storeBurst_bus (rx : List Byte) (s : State) : (storeBurst rx s).bus = s.bus := rfl
@[simp] theorem storeBurst_held (rx : List Byte) (s : State) : (storeBurst rx s).held = s.held := rfl
@[simp] theorem storeBurst_draws (rx : List Byte) (s : State) : (storeBurst rx s).draws = s.draws := rfl
@[simp] theorem storeBurst_rdata (rx : List Byte) (s : State) : (storeBurst rx s).rdata = s.rdata := rfl

end Sys2Proof.Machine
end

