-- ==== Sys2Proof/Laws/Ops.lean ====
section
/-! SUPPORT. What each shared operation can do, said once: the bytes of a transfer, and the three ways a transaction ends. -/

namespace Sys2Proof.Machine

/-! ### The bytes of a composed frame (30_encoding.md R75, R77) -/

theorem composed_wire (f : Frame) (cmd : Nibble) (reg : Byte) (d : DataArg) :
    (f.composed cmd reg d).wire 0 = commandByte cmd ∧ (f.composed cmd reg d).wire 1 = reg ∧
    (f.composed cmd reg d).wire 2 = d.value f.data := by
  refine ⟨?_, ?_, ?_⟩ <;> simp only [Frame.wire, Frame.word, commandByte, Frame.composed] <;>
    (apply BitVec.eq_of_getLsbD_eq; intro i hi; interval_cases i <;> simp)

theorem txBytes_three (f : Frame) (cmd : Nibble) (reg : Byte) (d : DataArg) :
    txBytes 3 (f.composed cmd reg d) = [commandByte cmd, reg, d.value f.data] := by
  obtain ⟨h0, h1, h2⟩ := composed_wire f cmd reg d
  simp [txBytes, h0, h1, h2]

theorem txBytes_five (f : Frame) (cmd : Nibble) (reg : Byte) (d : DataArg) :
    txBytes 5 (f.composed cmd reg d) = [commandByte cmd, reg, 0, 0, 0] := by
  obtain ⟨h0, h1, h2⟩ := composed_wire f cmd reg d
  simp [txBytes, h0, h1, List.replicate]

theorem txBytes_six (f : Frame) (cmd : Nibble) (reg : Byte) (d : DataArg) :
    txBytes 6 (f.composed cmd reg d) = [commandByte cmd, reg, 0, 0, 0, 0] := by
  obtain ⟨h0, h1, h2⟩ := composed_wire f cmd reg d
  simp [txBytes, h0, h1, List.replicate]

theorem txBytes_length (n : Nat) (f : Frame) : (txBytes n f).length = if n = 3 then 3 else n - 2 + 2 := by
  unfold txBytes
  split <;> simp

@[simp] theorem portStatus_zero (p : Params) : p.portStatus 0#32 = 0#32 := by
  simp [Params.portStatus]

@[simp] theorem portStatus_idem (p : Params) (st : Word) : p.portStatus (p.portStatus st) = p.portStatus st := by
  apply BitVec.eq_of_getLsbD_eq
  intro i hi
  simp only [Params.portStatus, BitVec.getLsbD_setWidth]
  grind

/-! ### The transaction sequencer (41_transaction.md R122) -/

theorem offered_eq_waiting (op : BusOp) (cmd : Nibble) (reg : Byte) (d : DataArg) (n : Nat) (s : State) :
    offered op cmd reg d n s =
      waiting s op (s.frame.composed cmd reg d) (txBytes n (s.frame.composed cmd reg d)) := by
  simp [offered, waiting, csWrite, compose, loadTx, noteView, State.view]

/-- Without an answer the operation stops at the `Xfer` (R126). -/
theorem transaction_unanswered (op : BusOp) (cmd : Nibble) (reg : Byte) (d : DataArg) (n : Nat) (s : State)
    (h : s.answers = []) :
    transaction op cmd reg d n s =
      .stopped (waiting s op (s.frame.composed cmd reg d) (txBytes n (s.frame.composed cmd reg d))) := by
  simp only [transaction, offered_eq_waiting]
  simp [waiting, h]

/-- A nonzero status stops the operation with Transport (R125). -/
theorem transaction_failed (op : BusOp) (cmd : Nibble) (reg : Byte) (d : DataArg) (n : Nat) (s : State)
    (a : Answer) (rest : List Answer) (h : s.answers = a :: rest) (hs : s.params.portStatus a.status ≠ 0) :
    transaction op cmd reg d n s = .stopped
      { transacted s (s.frame.composed cmd reg d) (txBytes n (s.frame.composed cmd reg d))
          (s.params.portStatus a.status) (a.bytes (txBytes n (s.frame.composed cmd reg d)).length) rest with
        kind := 6, xferCode := s.params.portStatus a.status } := by
  have hs' : ¬ s.params.portStatus a.status = 0#32 := hs
  simp only [transaction, offered_eq_waiting]
  simp [waiting, h, hs', takeAnswer, csWrite, noteView, raise, finish, transacted, bracketEvents, Kind.code]

/-- A zero status hands the received bytes to the operation, with the transaction behind it. -/
theorem transaction_received (op : BusOp) (cmd : Nibble) (reg : Byte) (d : DataArg) (n : Nat) (s : State)
    (a : Answer) (rest : List Answer) (h : s.answers = a :: rest) (hs : s.params.portStatus a.status = 0) :
    transaction op cmd reg d n s = .received (a.bytes (txBytes n (s.frame.composed cmd reg d)).length)
      { transacted s (s.frame.composed cmd reg d) (txBytes n (s.frame.composed cmd reg d)) 0
          (a.bytes (txBytes n (s.frame.composed cmd reg d)).length) rest with
        phase := .bus op .xfer
        held := s.held ++ [⟨s.frame, false⟩, ⟨s.frame.composed cmd reg d, false⟩, ⟨s.frame.composed cmd reg d, true⟩,
          ⟨s.frame.composed cmd reg d, false⟩] } := by
  simp only [transaction, offered_eq_waiting]
  simp [waiting, h, hs, takeAnswer, csWrite, noteView, State.view, transacted, bracketEvents]

/-! ### The sub-reads of ANGLE_DISCRETE (42_angle.md R153) -/

/-- A sub-read that is not answered stops the loop at its `Xfer` (R126). -/
theorem subReads_unanswered (k : Nat) (reg : Byte) (regs : List Byte) (s : State) (h : s.answers = []) :
    subReads k (reg :: regs) s = .stopped
      { waiting s .angleDiscrete (keptFrame s s.params.cmdRead reg) (readTx s reg) with idx := k } := by
  simp only [subReads, transaction_unanswered _ _ _ _ _ { s with idx := k } h, txBytes_three]
  rfl

/-- A sub-read that fails stops the loop (R125). -/
theorem subReads_failed (k : Nat) (reg : Byte) (regs : List Byte) (s : State) (a : Answer) (rest : List Answer)
    (h : s.answers = a :: rest) (hs : s.params.portStatus a.status ≠ 0) :
    subReads k (reg :: regs) s = .stopped
      { transacted s (keptFrame s s.params.cmdRead reg) (readTx s reg) (s.params.portStatus a.status)
          [a.rx0, a.rx1, a.rx2] rest with
        idx := k, kind := 6, xferCode := s.params.portStatus a.status } := by
  simp only [subReads, transaction_failed _ _ _ _ _ { s with idx := k } a rest h hs, txBytes_three]
  rfl

/-- A sub-read that succeeds writes `L[k]`, and the loop goes on with the registers left. -/
theorem subReads_received (k : Nat) (reg : Byte) (regs : List Byte) (s : State) (a : Answer) (rest : List Answer)
    (h : s.answers = a :: rest) (hs : s.params.portStatus a.status = 0) :
    subReads k (reg :: regs) s = subReads (k + 1) regs
      { transacted s (keptFrame s s.params.cmdRead reg) (readTx s reg) 0 [a.rx0, a.rx1, a.rx2] rest with
        idx := k
        layout := s.layout.put k a.rx2
        phase := .bus .angleDiscrete .xfer
        held := s.held ++ [⟨s.frame, false⟩, ⟨keptFrame s s.params.cmdRead reg, false⟩,
          ⟨keptFrame s s.params.cmdRead reg, true⟩, ⟨keptFrame s s.params.cmdRead reg, false⟩] } := by
  simp only [subReads, transaction_received _ _ _ _ _ { s with idx := k } a rest h hs, txBytes_three]
  rfl

/-- The events of sub-reads depend on the state through the parameters and FRAME.DATA alone. -/
theorem subReadEvents_congr (s t : State) (hp : t.params = s.params) (hd : t.frame.data = s.frame.data)
    (regs : List Byte) (as : List Answer) : subReadEvents t regs as = subReadEvents s regs as := by
  induction regs generalizing as with
  | nil => simp [subReadEvents]
  | cons r regs ih => cases as <;> simp [subReadEvents, ih, readTx, hp, hd]

/-! ### Post-processing (42_angle.md R152) -/

theorem postProcess_without_crc (s : State) (h : s.crcEn = false) : postProcess s = complete (publish s) := by
  simp [postProcess, h]

theorem postProcess_match (s : State) (h : s.crcEn = true) (hc : crcCheck s.layout = true) :
    postProcess s = complete (publish { s with crcOk := true }) := by
  simp [postProcess, h, hc]

theorem postProcess_mismatch (s : State) (h : s.crcEn = true) (hc : crcCheck s.layout = false) :
    postProcess s = raise .crcCheckFailed 0 { s with crcOk := false } := by
  simp [postProcess, h, hc]

end Sys2Proof.Machine
end

