-- ==== Sys2Proof/Laws/PerInstr.lean ====
section
/-! SUPPORT. Facts about each instruction as syntax, one lemma per constructor. -/

namespace Sys2Proof.Laws.TableRow

/-- The instruction has a row of its own in the table of 30_encoding.md R74: its word matches the row of its mnemonic, and
no other row. -/
def Statement (i : Instr) : Prop :=
  ∀ r ∈ rows, r.hits (encode i) = true ↔ r.mnemonic = i.mnemonic

theorem requestWord_op (op : Nibble) (r d : Byte) : opField (requestWord op r d) = op := by
  apply BitVec.eq_of_getLsbD_eq
  intro i hi
  interval_cases i <;> simp [opField, requestWord]

/-- A row whose mask covers OP is matched only by words with its OP. -/
theorem misses_of_op (row : Row) (w : Word) (hm : opField row.mask = 0xF) (ho : opField w ≠ opField row.matchWord) :
    row.hits w = false := by
  have h : ∀ a b : Word, opField (a &&& b) = opField a &&& opField b := fun a b => by
    apply BitVec.eq_of_getLsbD_eq
    intro i hi
    interval_cases i <;> simp [opField]
  simp only [Row.hits, beq_eq_false_iff_ne]
  intro he
  apply ho
  rw [← he, h, hm]
  generalize opField w = o
  revert o
  decide

theorem crcInit : Statement .crcInit := by
  unfold Statement; decide

theorem crcStep (d : Byte) : Statement (.crcStep d) := by
  unfold Statement; revert d; decide

theorem readReg (r : Byte) : Statement (.readReg r) := by
  unfold Statement; revert r; decide

theorem writeReg (r d : Byte) : Statement (.writeReg r d) := by
  intro row h
  by_cases hw : row = ⟨.writeReg, 0x00000004, 0xFF0000FF⟩
  · subst hw
    simp only [Row.hits, Instr.mnemonic, beq_iff_eq, iff_true]
    apply BitVec.eq_of_getLsbD_eq
    intro i hi
    interval_cases i <;> simp [encode, requestWord]
  · have ho : opField row.mask = 0xF ∧ (0x4 : Nibble) ≠ opField row.matchWord ∧ row.mnemonic ≠ .writeReg := by
      have hall : ∀ x ∈ rows, x ≠ ⟨.writeReg, 0x00000004, 0xFF0000FF⟩ → opField x.mask = 0xF ∧
          (0x4 : Nibble) ≠ opField x.matchWord ∧ x.mnemonic ≠ .writeReg := by decide
      exact hall row h hw
    have hm := misses_of_op row (requestWord 0x4 r d) ho.1 (by rw [requestWord_op]; exact ho.2.1)
    exact iff_of_false (by rw [encode, hm]; decide) ho.2.2

theorem angleDiscrete : Statement .angleDiscrete := by
  unfold Statement; decide

theorem angleBurst : Statement .angleBurst := by
  unfold Statement; decide

theorem autoZero : Statement .autoZero := by
  unfold Statement; decide

theorem progEeprom : Statement .progEeprom := by
  unfold Statement; decide

end Sys2Proof.Laws.TableRow
end

