-- ==== Sys2Proof/Machine/Assembler.lean ====
section
/-! DEFINITION. The assembler's text (30_encoding.md R81): characters to lines, lines to the acts of a host program. -/

namespace Sys2Proof.Machine

/-! ### Names -/

/-- The mnemonics as they are written (30_encoding.md R71). -/
def mnemonicNames : List (List Char × Mnemonic) :=
  [("CRC_INIT".toList, .crcInit), ("CRC_STEP".toList, .crcStep), ("READ_REG".toList, .readReg),
   ("WRITE_REG".toList, .writeReg), ("ANGLE_DISCRETE".toList, .angleDiscrete), ("ANGLE_BURST".toList, .angleBurst),
   ("AUTO_ZERO".toList, .autoZero), ("PROG_EEPROM".toList, .progEeprom)]

/-- The parameter names as they are written (00_scope.md R6). -/
def paramNames : List (List Char × ParamName) :=
  [("CMD_READ".toList, .cmdRead), ("CMD_WRITE".toList, .cmdWrite), ("CMD_BURST".toList, .cmdBurst),
   ("CMD_AUTO_ZERO".toList, .cmdAutoZero), ("CMD_PROG_EEPROM".toList, .cmdProgEeprom),
   ("REG_ANGLE_H".toList, .regAngleH), ("REG_ANGLE_M".toList, .regAngleM), ("REG_ANGLE_L".toList, .regAngleL),
   ("REG_CRC".toList, .regCrc), ("REG_CMD_ACK".toList, .regCmdAck), ("XS_W".toList, .xsW), ("ACK".toList, .ack),
   ("CRC_POLY".toList, .crcPoly), ("CRC_INIT_VALUE".toList, .crcInitValue)]

/-- The host registers' names as they are written (10_state.md R21). -/
def registerNames : List (List Char × HostReg) :=
  [("REQ".toList, .req), ("STATUS".toList, .status), ("XFER_CODE".toList, .xferCode),
   ("RESULT_DATA".toList, .resultData), ("RAW_ANGLE".toList, .rawAngle), ("FRAME".toList, .frame),
   ("CRC_ACC".toList, .crcAcc)]

/-- What a name stands for in a table. -/
def named {α : Type} (table : List (List Char × α)) (w : List Char) : Option α :=
  (table.find? fun e => e.1 == w).map (·.2)

/-! ### Characters (log 17) -/

/-- Blank characters inside a line. -/
def isBlank (c : Char) : Bool := c == ' ' || c == '\t' || c == '\r'

/-- The parts of a text between the characters `sep`. -/
def splitAtChar (sep : Char) : List Char → List (List Char)
  | [] => [[]]
  | c :: cs =>
    match splitAtChar sep cs with
    | [] => [[c]]
    | part :: parts => if c == sep then [] :: part :: parts else (c :: part) :: parts

/-- A text without the blanks at its ends. -/
def trimBlanks (t : List Char) : List Char := ((t.dropWhile isBlank).reverse.dropWhile isBlank).reverse

/-- A line without its comment: "`;` starts a comment" (R81). -/
def dropComment (t : List Char) : List Char := t.takeWhile (· != ';')

/-- The value of a digit, hexadecimal ones in either case. -/
def digitValue (c : Char) : Option Nat :=
  if '0' ≤ c ∧ c ≤ '9' then some (c.toNat - '0'.toNat)
  else if 'a' ≤ c ∧ c ≤ 'f' then some (c.toNat - 'a'.toNat + 10)
  else if 'A' ≤ c ∧ c ≤ 'F' then some (c.toNat - 'A'.toNat + 10)
  else none

/-- The digits `t` to base `b` after the value `acc`. -/
def digits (b acc : Nat) : List Char → Option Nat
  | [] => some acc
  | c :: cs =>
    match digitValue c with
    | some v => if v < b then digits b (acc * b + v) cs else none
    | none => none

/-- "A number (`0x..` hex or decimal)" (R81). -/
def number (t : List Char) : Option Nat :=
  match t with
  | [] => none
  | ['0', 'x'] => none
  | '0' :: 'x' :: hex => digits 16 0 hex
  | dec => digits 10 0 dec

/-- "An operand is a number or a parameter name" (R81). -/
def operand (t : List Char) : Option Operand :=
  match number t with
  | some n => some (.num n)
  | none => (named paramNames t).map .param

/-- Every operand of a list; none where one is not an operand. -/
def operands : List (List Char) → Option (List Operand)
  | [] => some []
  | t :: ts =>
    match operand t, operands ts with
    | some o, some os => some (o :: os)
    | _, _ => none

/-! ### Lines -/

/-- A line's word and its operands, "separated by commas" (R81), as one text each. -/
def lineParts (t : List Char) : List Char × List (List Char) :=
  let body := trimBlanks (dropComment t)
  let rest := trimBlanks (body.dropWhile fun c => !isBlank c)
  (body.takeWhile fun c => !isBlank c, if rest.isEmpty then [] else (splitAtChar ',' rest).map trimBlanks)

/-- The line of a word and its operands; none for an assembly error. -/
def lineOf (word : List Char) (ops : List (List Char)) : Option Line :=
  match named mnemonicNames word with
  | some m => (operands ops).map (.op m)
  | none =>
    if word == "WAIT".toList then (if ops.isEmpty then some .wait else none)
    else if word == "RD".toList then
      match ops with
      | [name] => (named registerNames name).map .rd
      | _ => none
    else if word == ".word".toList then
      match ops with
      | [t] => (number t).bind fun n => if n < 2 ^ 32 then some (.word (BitVec.ofNat 32 n)) else none
      | _ => none
    else none

/-- The lines of a text; an empty line, or one with a comment alone, is none of them. -/
def textLines : List (List Char) → Option (List Line)
  | [] => some []
  | t :: ts =>
    let parts := lineParts t
    if parts.1.isEmpty then textLines ts
    else
      match lineOf parts.1 parts.2, textLines ts with
      | some l, some ls => some (l :: ls)
      | _, _ => none

/-- A program's text assembled into the acts of the host; none where a line is an assembly error. -/
def assembleText (p : Params) (text : String) : Option (List Input) :=
  (textLines (splitAtChar '\n' text.toList)).bind (assembleLines p)

end Sys2Proof.Machine
end

