-- ==== Sys2Proof/Tests/Slice0.lean ====
section
/-! SUPPORT. Tests. Expected values come from the spec: its encodings (30_encoding.md) and its vectors (95_test_vectors.md),
named in each docstring. Then one witness for the hypotheses of each statement. -/

namespace Sys2Proof.Tests

open Sys2Proof.Machine

/-! ### Helpers -/

/-- The state of an outcome. -/
def nextOf (o : Host.Outcome State Fault Refusal) : Option State :=
  match o with
  | .next s => some s
  | .fault _ => none
  | .refused _ => none

/-- Whether an outcome is the refusal of a request while BUSY = 1. -/
def isRefused (o : Host.Outcome State Fault Refusal) : Bool :=
  match o with
  | .refused .reqWhileBusy => true
  | _ => false

/-- The block after reset with CRC_EN = `c`, the default parameters, and these answers to come. -/
def block (c : Bool) (answers : List Answer) : State := { State.powerOn Params.default c with answers := answers }

/-- An answer to a transfer of three bytes. -/
def ans3 (st : Word) (rx0 rx1 rx2 : Byte) : Answer := ⟨st, rx0, rx1, rx2, 0, 0, 0⟩

/-- The block after the request word `w` has run. -/
def ran (w : Nat) (s : State) : Option State := nextOf (step (s.withFetchWord 32 w))

/-- The block after the act `i`. -/
def acted (i : Input) (s : State) : Option State := nextOf (step { s with inputs := [i] })

/-- The host-visible registers but STATUS: XFER_CODE, RESULT_DATA, RAW_ANGLE, FRAME, CRC_ACC. -/
def regs (s : State) : Word × Byte × RawAngle × Word × Byte :=
  (s.xferCode, s.resultData, s.rawAngle, s.frame.word, s.crcAcc)

/-- STATUS. -/
def status (s : State) : Word := s.statusWord s.cs

/-- The bytes sent, transfer by transfer. -/
def sent (s : State) : List (List Byte) :=
  s.bus.filterMap fun e => match e with
    | .xfer tx _ _ => some tx
    | _ => none

/-- An idle block with this act next. -/
def next1 (i : Input) : State := { block true [] with inputs := [i] }

/-- A block waiting for the transport with this act next. -/
def waiting1 (i : Input) : State :=
  { block false [ans3 0 0 0 1] with
    phase := .bus (.readReg 0xFF) .xfer, cs := true, frame := ⟨0, 3, 0xFF, 0, 0⟩
    bus := [.csWrite false, .csWrite true], held := [⟨⟨0, 0, 0, 0, 0⟩, false⟩], inputs := [i] }

/-! ### Decode: words written out bit by bit from R74 -/

/-- R74, CRC_INIT's pattern. -/
theorem test_decode_crcInit : decode 0b00000000000000000000000000000001 = .instr .crcInit := by decide

/-- R74, CRC_STEP's pattern with d = 0x31 (R83). -/
theorem test_decode_crcStep : decode 0b00000000001100010000000000000010 = .instr (.crcStep 0x31) := by decide

/-- R74, READ_REG's pattern with r = 0x0A (R83). -/
theorem test_decode_readReg : decode 0b00000000000000000000101000000011 = .instr (.readReg 0x0A) := by decide

/-- R74, WRITE_REG's pattern with r = 0x0A, d = 0x58 (R83). -/
theorem test_decode_writeReg : decode 0b00000000010110000000101000000100 = .instr (.writeReg 0x0A 0x58) := by decide

/-- R74, ANGLE_DISCRETE's pattern. -/
theorem test_decode_angleDiscrete : decode 0b00000000000000000000000000000101 = .instr .angleDiscrete := by decide

/-- R74, ANGLE_BURST's pattern. -/
theorem test_decode_angleBurst : decode 0b00000000000000000000000000000110 = .instr .angleBurst := by decide

/-- R74, AUTO_ZERO's pattern. -/
theorem test_decode_autoZero : decode 0b00000000000000000000000000000111 = .instr .autoZero := by decide

/-- R74, PROG_EEPROM's pattern. -/
theorem test_decode_progEeprom : decode 0b00000000000000000000000000001000 = .instr .progEeprom := by decide

/-- 95_test_vectors.md 2.1: the invalid words, by what is wrong with them. -/
theorem test_decode_invalid :
    [0x00000000, 0x00000009, 0x0000000F, 0x00000013, 0x01000001, 0xFFFFFF04, 0x00000101, 0x00000102, 0x00010003,
      0x00000306, 0x00550007].map decode =
    [.invalid .opUnassigned, .invalid .opUnassigned, .invalid .opUnassigned, .invalid .mbz0NotZero,
      .invalid .mbz1NotZero, .invalid .mbz1NotZero, .invalid .regNotZero, .invalid .regNotZero, .invalid .dataNotZero,
      .invalid .regNotZero, .invalid .dataNotZero] := by decide

/-- 95_test_vectors.md 2.1: operands at their greatest value. -/
theorem test_encode_edges :
    encode (.crcStep 0xFF) = 0x00FF0002 ∧ encode (.readReg 0xFF) = 0x0000FF03 ∧
    encode (.writeReg 0xFF 0xFF) = 0x00FFFF04 := by decide

/-- The host's numbering: the whole word, and a word cut to fewer bits. -/
theorem test_decodeTableWord :
    decodeTableWord 32 0x00580A04 = some (.writeReg 0x0A 0x58) ∧ decodeTableWord 32 0x00000013 = none ∧
    decodeTableWord 8 0x00580A04 = some (.writeReg 0 0) := by decide

/-! ### WellFormed: the assembler's checks (R81) -/

/-- A wrong operand count is refused. -/
theorem test_count_refused :
    (Line.op .crcInit [.num 0]).countOk = false ∧ (Line.op .writeReg [.num 0x0A]).countOk = false ∧
    (Line.op .writeReg [.num 0x0A]).request Params.default = none := by decide

/-- An operand out of 0..255 is refused. -/
theorem test_range_refused :
    (Line.op .readReg [.num 256]).rangeOk Params.default = false ∧
    (Line.op .readReg [.num 256]).request Params.default = none := by decide

/-- Good lines are accepted, one with a parameter name. -/
theorem test_lines_accepted :
    (Line.op .readReg [.num 255]).request Params.default = some (.readReg 0xFF) ∧
    (Line.op .readReg [.param .regCrc]).request Params.default = some (.readReg 0x06) := by decide

/-- 95_test_vectors.md P1, lines of it as text, with blanks and comments. -/
theorem test_assemble :
    assembleText Params.default
      "        CRC_INIT            ; 0x00000001\n        WAIT\n\n  CRC_STEP 0x31 ; x\n RD CRC_ACC\n .word 0x00000102 ; raw" =
      some [.issue 0x00000001, .wait, .issue 0x00310002, .read 6, .issue 0x00000102] := by decide

/-- 95_test_vectors.md P3's first request, with a decimal operand, a parameter name, and the assembly errors of R81. -/
theorem test_assemble_operands :
    assembleText Params.default "WRITE_REG 0x09, 63" = some [.issue 0x003F0904] ∧
    assembleText Params.default "READ_REG REG_CRC" = some [.issue 0x00000603] ∧
    assembleText Params.default "READ_REG 256" = none ∧ assembleText Params.default "WRITE_REG 1" = none ∧
    assembleText Params.default "CRC_STEP 0xG1" = none := by decide

/-! ### The operations, one step each -/

/-- 95_test_vectors.md 2.2: CRC_INIT from CRC_ACC = 0x5A. -/
theorem test_crcInit :
    (ran 0x00000001 { block false [] with crcAcc := 0x5A, kind := 6, xferCode := 9 }).map (fun t => (regs t, t.kind)) =
      some ((0, 0, 0, 0, 0x00), 0) := by decide

/-- 95_test_vectors.md 2.2: CRC_STEP 0x32 from CRC_ACC = 0x97. -/
theorem test_crcStep :
    (ran 0x00320002 { block false [] with crcAcc := 0x97 }).map (·.crcAcc) = some 0x72 := by decide

/-- Vector T1: READ_REG 0x0A. -/
theorem test_readReg :
    (ran 0x00000A03 (block false [ans3 0 0 0 0x5B])).map (fun t => (regs t, status t, t.bus)) =
      some ((0, 0x5B, 0, 0x00000A30, 0), 0x000,
        [.csWrite false, .csWrite true, .xfer [0x30, 0x0A, 0x00] 0 [0, 0, 0x5B], .csWrite false]) := by decide

/-- Vector T3: READ_REG 0xFF fails, with RESULT_DATA = 0x5B before it. -/
theorem test_readReg_fails :
    (ran 0x0000FF03 { block false [ans3 1 7 8 9] with resultData := 0x5B }).map (fun t => (regs t, status t)) =
      some ((1, 0x5B, 0, 0x0000FF30, 0), 0x006) := by decide

/-- Vector T4: WRITE_REG 0x0A, 0x58. -/
theorem test_writeReg :
    (ran 0x00580A04 (block false [ans3 0 0 0 0])).map (fun t => (regs t, status t, sent t)) =
      some ((0, 0, 0, 0x00580A60, 0), 0x000, [[0x60, 0x0A, 0x58]]) := by decide

/-- Vector T6: WRITE_REG 0x0A, 0x58 fails with all status bits set; FRAME is written. -/
theorem test_writeReg_fails :
    (ran 0x00580A04 (block false [ans3 0xFFFFFFFF 0 0 0])).map (fun t => (regs t, status t)) =
      some ((0xFFFFFFFF, 0, 0, 0x00580A60, 0), 0x006) := by decide

/-- Vector Q3: ANGLE_DISCRETE with CRC_EN = 1. -/
theorem test_angleDiscrete :
    (ran 0x00000005 (block true [ans3 0 0 0 0x12, ans3 0 0 0 0x34, ans3 0 0 0 0x56, ans3 0 0 0 0x7C])).map
        (fun t => (regs t, status t, sent t)) =
      some ((0, 0, 0x02468A, 0x00000630, 0), 0x1B0,
        [[0x30, 0x03, 0x00], [0x30, 0x04, 0x00], [0x30, 0x05, 0x00], [0x30, 0x06, 0x00]]) := by decide

/-- Vector Q5: sub-read 2 of ANGLE_DISCRETE fails with status 7. -/
theorem test_angleDiscrete_fails :
    (ran 0x00000005 (block true [ans3 0 0 0 0x12, ans3 0 0 0 0x34, ans3 7 0 0 0x56, ans3 0 0 0 0x7C])).map
        (fun t => (regs t, status t, t.bus.length)) =
      some ((7, 0, 0, 0x00000530, 0), 0x016, 12) := by decide

/-- Vector Q2: ANGLE_BURST with CRC_EN = 0. -/
theorem test_angleBurst :
    (ran 0x00000006 (block false [⟨0, 0xA3, 0x03, 0xAB, 0xCD, 0xEF, 0⟩])).map (fun t => (regs t, status t, t.bus)) =
      some ((0, 0, 0x1579BD, 0x000003A0, 0), 0x1C0,
        [.csWrite false, .csWrite true,
          .xfer [0xA0, 0x03, 0x00, 0x00, 0x00] 0 [0xA3, 0x03, 0xAB, 0xCD, 0xEF], .csWrite false]) := by decide

/-- Vector Q8: ANGLE_BURST with a wrong CRC byte, after Q3: RAW_ANGLE and WARN stay, CRC_OK falls. -/
theorem test_angleBurst_mismatch :
    (ran 0x00000006 { block true [⟨0, 0, 0, 0xFF, 0xFF, 0xFF, 0xFF⟩] with
        rawAngle := 0x02468A, warn := 6, crcOk := true }).map (fun t => (regs t, status t, sent t)) =
      some ((0, 0, 0x02468A, 0x000003A0, 0), 0x195, [[0xA0, 0x03, 0x00, 0x00, 0x00, 0x00]]) := by decide

/-- Vector K1: AUTO_ZERO acknowledged. -/
theorem test_autoZero :
    (ran 0x00000007 (block false [ans3 0 0 0 0x55])).map (fun t => (regs t, status t, sent t)) =
      some ((0, 0, 0, 0x00000050, 0), 0x000, [[0x50, 0x00, 0x00]]) := by decide

/-- Vectors K3 and K5: only rx[2] is compared; a transport failure wins over an acknowledgement. -/
theorem test_autoZero_fails :
    (ran 0x00000007 (block false [ans3 0 0x55 0x55 0x54])).map status = some 0x001 ∧
    (ran 0x00000007 (block false [ans3 3 0 0 0x55])).map (fun t => (status t, t.xferCode)) = some (0x006, 3) := by decide

/-- Vector K6: PROG_EEPROM acknowledged. -/
theorem test_progEeprom :
    (ran 0x00000008 (block false [ans3 0 0 0 0x55])).map (fun t => (regs t, status t, sent t)) =
      some ((0, 0, 0, 0x000000C0, 0), 0x000, [[0xC0, 0x00, 0x00]]) := by decide

/-- Vector K7: PROG_EEPROM not acknowledged, and not retried. -/
theorem test_progEeprom_fails :
    (ran 0x00000008 (block false [ans3 0 0 0 0xAA, ans3 0 0 0 0x55])).map (fun t => (status t, t.bus.length)) =
      some (0x001, 4) := by decide

/-- 95_test_vectors.md 2.2, last row: an invalid word leaves CRC_ACC and everything but KIND. -/
theorem test_invalid_request :
    (ran 0x00000102 { block false [] with crcAcc := 0xF4 }).map (fun t => (regs t, status t, t.bus)) =
      some ((0, 0, 0, 0, 0xF4), 0x004, []) := by decide

/-- 95_test_vectors.md 2.2: `Crc8` of three lists. -/
theorem test_crc8 : crc8 [0xDE, 0xAD, 0xBE] = 0xC1 ∧ crc8 [0x3F, 0xFF, 0xF8] = 0x97 ∧ crc8 [] = 0 := by decide

/-- Vectors A6 and A13: reassembly. -/
theorem test_assemble_angle :
    assemble 0xDE 0xAD 0xBE = 0x1BD5B7 ∧ warnOf 0xBE = 6 ∧ assemble 0x00 0x20 0x03 = 0x000400 ∧ warnOf 0x03 = 3 := by
  decide

/-! ### The host interface -/

/-- Vector S1 and S2: STATUS after reset. -/
theorem test_reset : status (block false []) = 0x000 ∧ status (block true []) = 0x010 := by decide

/-- Vector S4 and R23: reads of REQ and of an index above 6 return 0. -/
theorem test_read_zero :
    (acted (.read 0) { block false [] with rq := 5, rdata := 9 }).map (·.rdata) = some 0 ∧
    (acted (.read 7) { block false [] with rdata := 9 }).map (·.rdata) = some 0 := by decide

/-- P2: `RD STATUS` after a CRC mismatch reads 0x015. -/
theorem test_read_status :
    (acted (.read 1) { block true [] with kind := 5 }).map (·.rdata) = some 0x015 := by decide

/-- 10_state.md R40: while a READ_REG waits for its transfer, RESULT_DATA still reads as the value before it. -/
theorem test_busy_read :
    (acted (.read 3) { waiting1 .event with resultData := 0x5B }).map (·.rdata) = some 0x0000005B := by decide

/-- Vector S5: a write to STATUS or RAW_ANGLE is ignored. -/
theorem test_write_ignored :
    acted (.write 1 0xFFFFFFFF) (block false []) = some (block false []) ∧
    acted (.write 4 0xFFFFFFFF) (block false []) = some (block false []) := by decide

/-- Vector T8 and R210: a raw REQ write while BUSY = 1 changes nothing; a program's line is refused. -/
theorem test_busy_request :
    acted (.write 0 0x00000A03) { block false [] with phase := .post } = some { block false [] with phase := .post } ∧
    isRefused (step { block false [] with phase := .post, inputs := [.issue 0x00000A03] }) = true := by decide

/-- Vector S3: the pin alone changes no register. -/
theorem test_pin : (acted (.pin true) (block false [])).map (fun t => (t.crcEn, t.cfgCrcEn)) = some (false, true) := by
  decide

/-- Vector S6: reset while the `Xfer` of a WRITE_REG is in flight; its answer is discarded. -/
theorem test_reset_in_flight :
    (acted .reset { block false [ans3 0 0 0 1, ans3 0 0 0 2] with
        phase := .bus (.writeReg 1 2) .xfer, cs := true, frame := ⟨0, 6, 1, 2, 0⟩, kind := 6 }).map
      (fun t => (regs t, status t, t.answers)) = some ((0, 0, 0, 0, 0), 0x000, [ans3 0 0 0 2]) := by decide

/-- Vector S7: no answer: BUSY = 1 and CS = 1. -/
theorem test_hang : (ran 0x00000A03 (block false [])).map status = some 0x208 := by decide

/-- The step on which a fetched word runs is the word's operation (host's check in small). -/
theorem test_withFetchWord :
    (nextOf (step (State.reset.withFetchWord 32 0x00FF0002))).map (·.crcAcc) = some 0xF3 := by decide

/-! ### Witnesses: for each statement with hypotheses, a state and operands that meet them, clause by clause -/

theorem witness_EncodeOfDecode : decode 0x00FFFF04 = .instr (.writeReg 0xFF 0xFF) := by decide

theorem witness_RowsDecideDecoding :
    (⟨.writeReg, 0x00000004, 0xFF0000FF⟩ : Row) ∈ rows ∧
    (⟨.writeReg, 0x00000004, 0xFF0000FF⟩ : Row).hits 0x00FFFF04 = true ∧
    ∀ r ∈ rows, r.hits 0x00000009 = false := by decide

theorem witness_InvalidRequestOnlyReports :
    (next1 (.request 0x00000009)).inputs = .request 0x00000009 :: [] ∧
    (next1 (.request 0x00000009)).phase = .idle ∧ decode 0x00000009 = .invalid .opUnassigned := by decide

theorem witness_AssemblerLines :
    (Line.op .writeReg [.num 255, .num 0]).request Params.default = some (.writeReg 255 0) ∧
    (Line.op .crcStep [.num 255]).request Params.default = some (.crcStep 255) ∧
    (Line.op .readReg [.num 0]).request Params.default = some (.readReg 0) ∧
    (Line.op .crcInit []).request Params.default = some .crcInit ∧
    (Line.op .angleBurst []).request Params.default = some .angleBurst := by decide

theorem witness_StepRunsDecodedRequest :
    (next1 (.request 0x00FFFF04)).inputs = .request 0x00FFFF04 :: [] ∧ (next1 (.request 0x00FFFF04)).phase = .idle ∧
    decode 0x00FFFF04 = .instr (.writeReg 0xFF 0xFF) := by decide

theorem witness_ReqWriteStartsOrIsIgnored :
    ((next1 (.write 0 7)).inputs = .write 0 7 :: [] ∧ (next1 (.write 0 7)).busy = false) ∧
    ((next1 (.issue 7)).inputs = .issue 7 :: [] ∧ (next1 (.issue 7)).busy = false) ∧
    (waiting1 (.write 0 7)).inputs = .write 0 7 :: [] ∧ (waiting1 (.write 0 7)).busy = true := by decide

theorem witness_BusyRequestLineRefused :
    ((waiting1 (.write 0 7)).busy = true ∧ (waiting1 (.write 0 7)).inputs = .write 0 7 :: []) ∧
    ((waiting1 (.request 7)).busy = true ∧ (waiting1 (.request 7)).inputs = .request 7 :: []) ∧
    (waiting1 (.issue 7)).busy = true ∧ (waiting1 (.issue 7)).inputs = .issue 7 :: [] := by decide

theorem witness_OnlyBusyRequestLinesRefused : step (waiting1 (.request 7)) = .refused .reqWhileBusy := rfl

theorem witness_HostAccessRules :
    (next1 (.read 0)).inputs = .read 0 :: [] ∧ (next1 (.read 7)).inputs = .read 7 :: [] ∧
    (next1 (.write 1 5)).inputs = .write 1 5 :: [] ∧ (nextOf (step (next1 (.read 6)))).isSome = true := by decide

/-- HostReadsReturnRegisters: idle and busy reads, and a read at the `Xfer` of a request (four events after its write). -/
theorem witness_HostReadsReturnRegisters :
    (∀ idx ∈ [2, 3, 4, 6], (waiting1 (.read idx)).inputs = .read idx :: []) ∧
    ((waiting1 (.read 1)).inputs = .read 1 :: [] ∧ (waiting1 (.read 1)).kind ≠ 7) ∧
    ((next1 (.read 1)).inputs = .read 1 :: [] ∧ (next1 (.read 1)).kind ≠ 7 ∧ (next1 (.read 1)).phase = .idle) ∧
    ((next1 (.read 5)).inputs = .read 5 :: [] ∧ (next1 (.read 5)).phase = .idle) ∧
    (block true [ans3 0 0 0 1]).phase = .idle ∧ (block true [ans3 0 0 0 1]).kind ≠ 7 ∧
    ({ advances 4 (latch 0x00000A03 (block true [ans3 0 0 0 1])) with inputs := [.read 3] } : State).busy = true := by
  decide

theorem witness_BusyReadsDrawHeldValues :
    ∀ idx ∈ [1, 5], (waiting1 (.read idx)).inputs = .read idx :: [] ∧ (waiting1 (.read idx)).busy = true ∧
      (waiting1 (.read idx)).kind ≠ 7 := by decide

theorem witness_ResultsChangeOnlyAtEndEvent : (advance (waiting1 .event)).busy = true := by decide

theorem witness_ResetValues : (waiting1 .reset).inputs = .reset :: [] := by decide

theorem witness_ResetCutsOperation :
    ((waiting1 .reset).inputs = .reset :: [] ∧ (waiting1 .reset).phase = .bus (.readReg 0xFF) .xfer) ∧
    (next1 .reset).inputs = .reset :: [] ∧ ∀ op, (next1 .reset).phase ≠ .bus op .xfer := by
  refine ⟨by decide, by decide, fun op h => ?_⟩
  cases h

theorem witness_CrcEnLoadedOnlyAtReset :
    (nextOf (step (waiting1 .reset))).isSome = true ∧ (waiting1 .reset).inputs = .reset :: [] ∧
    (nextOf (step (waiting1 (.pin true)))).isSome = true ∧ (waiting1 (.pin true)).inputs = .pin true :: [] := by decide

theorem witness_Crc8Linear : ([0x12, 0x34, 0x56] : List Byte).length = ([0x80, 0x00, 0x00] : List Byte).length := by decide

theorem witness_Crc8DetectsSingleBit : 2 < ([0x12, 0x34, 0x56] : List Byte).length ∧ 7 < 8 := by decide

theorem witness_FramePackingAndWireBytes : (⟨0, 0xF, 0, 0, 0⟩ : Frame).rsv = 0 := by decide

/-- ReadRegOutcome, WriteRegOutcome, AutoZeroOutcome, ProgEepromOutcome: one answered transfer, each clause. -/
theorem witness_single_transfer :
    (block false [ans3 0 0 0 0x55]).answers = ans3 0 0 0 0x55 :: [] ∧
    Params.default.portStatus (ans3 0 0 0 0x55).status = 0 ∧ (ans3 0 0 0 0x55).rx2 = 0x55 ∧
    Params.default.portStatus (ans3 0 0 0 0x54).status = 0 ∧ (ans3 0 0 0 0x54).rx2 ≠ 0x55 ∧
    Params.default.portStatus (ans3 0xFFFFFFFF 0 0 0x55).status ≠ 0 := by decide

theorem witness_ReadSendsKeptData :
    (block false [ans3 0 0 0 1, ans3 3 0 0 2]).answers = ans3 0 0 0 1 :: ans3 3 0 0 2 :: [] := by decide

/-- UnansweredTransferWaits: no answer at all, and none at the last sub-read of ANGLE_DISCRETE with CRC_EN = 1 and 0. -/
theorem witness_UnansweredTransferWaits :
    (block true []).answers = [] ∧ (subReadRegs (block true []))[0]? = some 0x03 ∧
    (block true [ans3 0 0 0 1, ans3 0 0 0 2, ans3 0 0 0 3]).answers = [ans3 0 0 0 1, ans3 0 0 0 2, ans3 0 0 0 3] ∧
    [ans3 0 0 0 1, ans3 0 0 0 2, ans3 0 0 0 3].length < (if (block true []).crcEn then 4 else 3) ∧
    (subReadRegs (block true []))[3]? = some 0x06 ∧
    [ans3 0 0 0 1, ans3 0 0 0 2].length < (if (block false []).crcEn then 4 else 3) ∧
    (subReadRegs (block false []))[2]? = some 0x05 ∧
    (∀ a ∈ [ans3 0 0 0 1, ans3 0 0 0 2, ans3 0 0 0 3], Params.default.portStatus a.status = 0) := by decide

theorem witness_OnlyResetEndsHang :
    (∀ i, ({ waiting1 i with answers := [] }).phase = .bus (.readReg 0xFF) .xfer ∧
      ({ waiting1 i with answers := [] }).answers = []) ∧
    (nextOf (step { waiting1 .event with answers := [] })).isSome = true ∧
    (nextOf (step { waiting1 .reset with answers := [] })).isSome = true :=
  ⟨fun _ => ⟨rfl, rfl⟩, by decide, by decide⟩

theorem witness_TransfersAreBracketedCommands :
    (nextOf (exec .angleBurst (block true [ans3 0 0 0 1]))).map (·.busy) = some false := by decide

/-- AngleBurstOutcome, and AllZeroTelemetryPasses for the burst: failed, without CRC, matching, mismatching, all zero. -/
theorem witness_AngleBurstOutcome :
    Params.default.portStatus (ans3 5 0 0 1).status ≠ 0 ∧ Params.default.portStatus (ans3 0 0 0 1).status = 0 ∧
    (block false [ans3 0 0 0 1]).crcEn = false ∧ (block true [ans3 0 0 0 0]).crcEn = true ∧
    crc8 [(ans3 0 0 0 0).rx2, (ans3 0 0 0 0).rx3, (ans3 0 0 0 0).rx4] = (ans3 0 0 0 0).rx5 ∧
    crc8 [(ans3 0 0 0 1).rx2, (ans3 0 0 0 1).rx3, (ans3 0 0 0 1).rx4] ≠ (ans3 0 0 0 1).rx5 := by decide

/-- AngleDiscreteWithoutCrc, AngleDiscreteWithCrc: the telemetry of vectors Q1 and Q3, and a mismatch. -/
theorem witness_AngleDiscrete :
    (block false [ans3 0 0 0 0xAB, ans3 0 0 0 0xCD, ans3 0 0 0 0xEF]).answers =
      ans3 0 0 0 0xAB :: ans3 0 0 0 0xCD :: ans3 0 0 0 0xEF :: [] ∧
    (block true [ans3 0 0 0 0x12, ans3 0 0 0 0x34, ans3 0 0 0 0x56, ans3 0 0 0 0x7C]).answers =
      ans3 0 0 0 0x12 :: ans3 0 0 0 0x34 :: ans3 0 0 0 0x56 :: ans3 0 0 0 0x7C :: [] ∧
    Params.default.portStatus (ans3 0 0 0 0xAB).status = 0 ∧
    crc8 [0x12, 0x34, 0x56] = 0x7C ∧ crc8 [0x12, 0x34, 0x56] ≠ 0x7D := by decide

/-- AngleDiscreteStopsAtFailure: a failure at the first, and at the last sub-read, with CRC_EN = 0 and 1. -/
theorem witness_AngleDiscreteStopsAtFailure :
    (block false [ans3 1 0 0 0]).answers = [] ++ ans3 1 0 0 0 :: [] ∧
    ([] : List Answer).length < (if (block false []).crcEn then 4 else 3) ∧
    [ans3 0 0 0 1, ans3 0 0 0 2, ans3 0 0 0 3].length < (if (block true []).crcEn then 4 else 3) ∧
    (∀ a ∈ [ans3 0 0 0 1, ans3 0 0 0 2, ans3 0 0 0 3], Params.default.portStatus a.status = 0) ∧
    Params.default.portStatus (ans3 1 0 0 0).status ≠ 0 ∧
    (subReadRegs (block false []))[0]? = some 0x03 ∧ (subReadRegs (block true []))[3]? = some 0x06 := by decide

theorem witness_StrategiesAgree :
    [ans3 0 0 0 0x12, ans3 0 0 0 0x34, ans3 0 0 0 0x56, ans3 0 0 0 0x7C].length =
      (if (block true []).crcEn then 4 else 3) ∧
    [ans3 0 0 0 0x12, ans3 0 0 0 0x34, ans3 0 0 0 0x56, ans3 0 0 0 0x7C].map (·.rx2) =
      [0x12, 0x34, 0x56] ++ (if (block true []).crcEn then [0x7C] else []) ∧
    (∀ a ∈ [ans3 0 0 0 0x12, ans3 0 0 0 0x34, ans3 0 0 0 0x56, ans3 0 0 0 0x7C],
      Params.default.portStatus a.status = 0) ∧
    Params.default.portStatus (⟨0, 0xA3, 0x03, 0x12, 0x34, 0x56, 0x7C⟩ : Answer).status = 0 := by decide

theorem witness_AllZeroTelemetryPasses :
    (block true [ans3 0 0 0 0, ans3 0 9 9 0, ans3 0 0 0 0, ans3 0 0 0 0]).answers =
      ans3 0 0 0 0 :: ans3 0 9 9 0 :: ans3 0 0 0 0 :: ans3 0 0 0 0 :: [] ∧ (block true []).crcEn = true ∧
    ∀ x ∈ [ans3 0 0 0 0, ans3 0 9 9 0, ans3 0 0 0 0, ans3 0 0 0 0],
      Params.default.portStatus x.status = 0 ∧ x.rx2 = 0 := by decide

theorem witness_EveryOperationEnds :
    4 ≤ (block true [ans3 0 0 0 1, ans3 0 0 0 2, ans3 0 0 0 3, ans3 0 0 0 4]).answers.length := by decide

/-- OperationsWriteOnlyTheirRegisters: an end in each result, and an operation left waiting. -/
theorem witness_OperationsWriteOnlyTheirRegisters :
    (nextOf (exec .autoZero (block false [ans3 0 0 0 0]))).map (fun t => (t.kind, t.busy)) = some (1, false) ∧
    (nextOf (exec .angleBurst (block true [ans3 0 0 0 1]))).map (fun t => (t.kind, t.busy)) = some (5, false) ∧
    (nextOf (exec (.readReg 0) (block false [ans3 1 0 0 0]))).map (fun t => (t.kind, t.busy)) = some (6, false) ∧
    (nextOf (exec (.crcStep 1) (block false []))).map (fun t => (t.kind, t.busy)) = some (0, false) ∧
    (nextOf (exec .progEeprom (block false []))).map (·.busy) = some true := by decide

/-- UnconsultedBytesDoNotMatter: READ_REG with another rx[0] and rx[1], and another failed answer; WRITE_REG with all three
bytes other ones; ANGLE_BURST without CRC with another rx[5]. -/
theorem witness_UnconsultedBytesDoNotMatter :
    List.Forall₂ (fun a b => Params.default.portStatus a.status = Params.default.portStatus b.status ∧
      (Params.default.portStatus a.status = 0 → SameConsulted (.readReg 1) true a b))
      [ans3 0 1 2 3, ans3 9 1 2 3] [ans3 0 7 8 3, ans3 9 4 5 6] ∧
    SameConsulted (.writeReg 1 2) true (ans3 0 1 2 3) (ans3 0 4 5 6) ∧
    SameConsulted .angleBurst false ⟨0, 1, 2, 3, 4, 5, 6⟩ ⟨0, 7, 8, 3, 4, 5, 9⟩ :=
  ⟨.cons ⟨rfl, fun _ => rfl⟩ (.cons ⟨rfl, fun h => absurd h (by decide)⟩ .nil), trivial, rfl, rfl, rfl,
    fun h => absurd h (by decide)⟩

theorem witness_FlagsAreNoInput : (nextOf (exec (.readReg 1) (block false [ans3 0 0 0 1]))).map (·.busy) = some false := by
  decide

theorem witness_NeverWritesReservedKinds :
    (nextOf (step (next1 (.request 0)))).map (fun t => decide (t.kind ≠ (next1 (.request 0)).kind)) = some true := by decide

theorem witness_WriteThenWaitReachesOutcome :
    ({ block false [ans3 0 0 0 1] with inputs := [.issue 0x00000A03, .wait] } : State).phase = .idle ∧
    (nextOf (step { block false [ans3 0 0 0 1] with inputs := [.request 0x00000A03] })).map (·.busy) = some false := by
  decide

/-- StepKeepsInvariant, InvariantStatesAreSafe: the invariant holds at reset, where a step is possible. -/
theorem witness_StepKeepsInvariant : State.reset.Inv ∧ (nextOf (step State.reset)).isSome = true := by
  refine ⟨⟨by decide, by decide, by decide, by decide, by decide, by decide, by decide, by decide, by decide, by decide,
    by decide, fun point h => ?_, by decide⟩, by decide⟩
  cases h

/-- ChipSelectContract: a state that meets the invariant, with a transfer in its trace. -/
theorem witness_ChipSelectContract :
    State.Inv { block false [] with bus := bracketEvents [0x30, 0x0A, 0x00] 0 [0, 0, 0x5B], txb := [0x30, 0x0A, 0x00] } := by
  refine ⟨by decide, by decide, by decide, by decide, by decide, by decide, by decide, by decide, by decide, by decide,
    by decide, fun point h => ?_, by decide⟩
  cases h

end Sys2Proof.Tests
end

/-! SUPPORT. How an operation ends (60_exceptions.md R180, R182, R183): every operation of the block is total (00_scope.md
R15), and where its transfers are answered it reaches its end. -/

namespace Sys2Proof.Machine

/-! ### The end of an operation -/

/-- `s` is IDLE with CS deasserted, and KIND is one of `ks`: an operation that used the bus has ended there. -/
structure State.EndedIn (ks : List (BitVec 3)) (s : State) : Prop where
  phase : s.phase = .idle
  kind : s.kind ∈ ks
  cs : s.cs = false

theorem busy_of_phase_idle {s : State} (h : s.phase = .idle) : s.busy = false := by
  simp [State.busy, h]

theorem State.EndedIn.mono {ks ls : List (BitVec 3)} {s : State} (h : s.EndedIn ks) (hsub : ks ⊆ ls) :
    s.EndedIn ls :=
  ⟨h.phase, hsub h.kind, h.cs⟩

theorem complete_endedIn {ks : List (BitVec 3)} {s : State} (hk : 0 ∈ ks) (hcs : s.cs = false) :
    (complete s).EndedIn ks :=
  ⟨complete_phase s, hk, hcs⟩

theorem raise_endedIn {ks : List (BitVec 3)} {k : Kind} {st : Word} {s : State} (hk : k.code ∈ ks)
    (hcs : s.cs = false) : (raise k st s).EndedIn ks :=
  ⟨raise_phase k st s, hk, hcs⟩

/-! ### What an operation does with what it received ends it -/

theorem ackCheck_endedIn (rx : List Byte) {s : State} (hcs : s.cs = false) : (ackCheck rx s).EndedIn [0, 1, 6] := by
  unfold ackCheck
  split
  · exact complete_endedIn (by decide) hcs
  · exact raise_endedIn (by decide) hcs

theorem postProcess_endedIn {s : State} (hcs : s.cs = false) :
    (postProcess s).EndedIn (if s.crcEn then [0, 5, 6] else [0, 6]) := by
  cases hc : s.crcEn with
  | false =>
    rw [postProcess_without_crc s hc]
    exact complete_endedIn (by decide) hcs
  | true =>
    cases hm : crcCheck s.layout with
    | true =>
      rw [postProcess_match s hc hm]
      exact complete_endedIn (by decide) hcs
    | false =>
      rw [postProcess_mismatch s hc hm]
      exact raise_endedIn (by decide) hcs

/-! ### A bracket that was answered -/

/-- The transport answered: the operation ended in Transport (R125), or it goes on with CS deasserted (41_transaction.md
R123) and CRC_EN still `c`. -/
def Bracket.Answered (c : Bool) : Bracket → Prop
  | .stopped t => t.EndedIn [6]
  | .received _ t => t.cs = false ∧ t.crcEn = c

theorem transaction_answered (op : BusOp) (cmd : Nibble) (reg : Byte) (d : DataArg) (n : Nat) {s : State}
    (h : 1 ≤ s.answers.length) : (transaction op cmd reg d n s).Answered s.crcEn := by
  obtain ⟨a, rest, ha⟩ := List.exists_cons_of_length_pos h
  by_cases hs : s.params.portStatus a.status = 0
  · rw [transaction_received op cmd reg d n s a rest ha hs]
    exact ⟨rfl, rfl⟩
  · rw [transaction_failed op cmd reg d n s a rest ha hs]
    exact ⟨rfl, List.mem_singleton.mpr rfl, rfl⟩

/-- One answer for each register left. With none left the loop hands on CS as it finds it, hence `hcs`. -/
theorem subReads_answered (k : Nat) (regs : List Byte) (s : State) (h : regs.length ≤ s.answers.length)
    (hcs : regs = [] → s.cs = false) : (subReads k regs s).Answered s.crcEn := by
  induction regs generalizing k s with
  | nil => exact ⟨hcs rfl, rfl⟩
  | cons reg regs ih =>
    obtain ⟨a, rest, ha⟩ := List.exists_cons_of_length_pos (Nat.lt_of_lt_of_le (Nat.succ_pos _) h)
    have hrest : regs.length ≤ rest.length := by simpa [ha] using h
    by_cases hs : s.params.portStatus a.status = 0
    · rw [subReads_received k reg regs s a rest ha hs]
      exact ih (k + 1) _ hrest fun _ => rfl
    · rw [subReads_failed k reg regs s a rest ha hs]
      exact ⟨rfl, List.mem_singleton.mpr rfl, rfl⟩

theorem discreteRegs_length_le (p : Params) (c : Bool) : (discreteRegs p c).length ≤ 4 := by
  cases c <;> simp [discreteRegs]

theorem discreteRegs_ne_nil (p : Params) (c : Bool) : discreteRegs p c ≠ [] := by
  simp [discreteRegs]

/-! ### Every operation ends -/

/-- What EveryOperationEnds says of operation `i` in state `s`. -/
def EndsWhenAnswered (i : Instr) (s : State) : Prop :=
  ∃ t, exec i s = .next t ∧
    (4 ≤ s.answers.length → t.busy = false ∧ t.kind ∈ resultsOf i s.crcEn ∧ (t.bus ≠ s.bus → t.cs = false))

/-- An operation that completes at once, with no bus event (40_crc.md R104, R105). -/
theorem EndsWhenAnswered.of_complete {i : Instr} {s u : State} (hexec : exec i s = .next (complete u))
    (hk : 0 ∈ resultsOf i s.crcEn) (hbus : u.bus = s.bus) : EndsWhenAnswered i s :=
  ⟨complete u, hexec, fun _ => ⟨busy_of_phase_idle (complete_phase u), hk, fun hne => absurd hbus hne⟩⟩

/-- An operation that ends through a bracket: the bracket is answered when enough answers are to come, and the
operation's last lines `k` end it from every state that an answered bracket hands them. -/
theorem EndsWhenAnswered.of_bracket {i : Instr} {s : State} {b : Bracket} {k : List Byte → State → State}
    (hexec : exec i s = b.andThen k) (hb : 4 ≤ s.answers.length → b.Answered s.crcEn)
    (h6 : 6 ∈ resultsOf i s.crcEn)
    (hk : ∀ rx t, t.cs = false → t.crcEn = s.crcEn → (k rx t).EndedIn (resultsOf i s.crcEn)) :
    EndsWhenAnswered i s := by
  have hend : ∃ t, b.andThen k = .next t ∧ (4 ≤ s.answers.length → t.EndedIn (resultsOf i s.crcEn)) := by
    cases b with
    | received rx t =>
      refine ⟨k rx t, rfl, fun h => ?_⟩
      obtain ⟨hcs, hc⟩ := hb h
      exact hk rx t hcs hc
    | stopped t => exact ⟨t, rfl, fun h => (hb h).mono (List.cons_subset.mpr ⟨h6, List.nil_subset _⟩)⟩
  obtain ⟨t, ht, hend⟩ := hend
  exact ⟨t, hexec.trans ht, fun h => ⟨busy_of_phase_idle (hend h).phase, (hend h).kind, fun _ => (hend h).cs⟩⟩

/-- The CRC operations complete at once; the others end through their bracket, four answers being enough for the longest,
ANGLE_DISCRETE with CRC_EN = 1. -/
theorem exec_endsWhenAnswered (i : Instr) (s : State) : EndsWhenAnswered i s := by
  have hone : 4 ≤ s.answers.length → 1 ≤ s.answers.length := Nat.le_trans (by decide)
  cases i with
  | crcInit => exact .of_complete rfl (by simp [resultsOf]) rfl
  | crcStep d => exact .of_complete rfl (by simp [resultsOf]) rfl
  | readReg r =>
    exact .of_bracket rfl (fun h => transaction_answered _ _ _ _ _ (hone h)) (by simp [resultsOf])
      fun _ _ hcs _ => complete_endedIn (by simp [resultsOf]) hcs
  | writeReg r d =>
    exact .of_bracket rfl (fun h => transaction_answered _ _ _ _ _ (hone h)) (by simp [resultsOf])
      fun _ _ hcs _ => complete_endedIn (by simp [resultsOf]) hcs
  | angleDiscrete =>
    refine .of_bracket rfl (fun h => subReads_answered 0 _ s ?_ ?_) (by cases s.crcEn <;> simp [resultsOf])
      fun _ t hcs hc => hc ▸ postProcess_endedIn hcs
    · exact Nat.le_trans (discreteRegs_length_le _ _) h
    · exact fun hnil => absurd hnil (discreteRegs_ne_nil _ _)
  | angleBurst =>
    exact .of_bracket rfl (fun h => transaction_answered _ _ _ _ _ (hone h)) (by cases s.crcEn <;> simp [resultsOf])
      fun rx t hcs hc => hc ▸ postProcess_endedIn (s := storeBurst rx t) hcs
  | autoZero =>
    exact .of_bracket rfl (fun h => transaction_answered _ _ _ _ _ (hone h)) (by simp [resultsOf])
      fun rx _ hcs _ => ackCheck_endedIn rx hcs
  | progEeprom =>
    exact .of_bracket rfl (fun h => transaction_answered _ _ _ _ _ (hone h)) (by simp [resultsOf])
      fun rx _ hcs _ => ackCheck_endedIn rx hcs

/-- Settles O41, operation by operation. -/
theorem everyOperationEnds : Obligations.EveryOperationEnds :=
  exec_endsWhenAnswered

end Sys2Proof.Machine

/-! SUPPORT. One step by the act that is next, and the host's accesses (10_state.md R21, R23, R24;
30_encoding.md R81). -/

namespace Sys2Proof.Machine

/-! ### One step, by the act that is next (log 2) -/

/-- `s` with the acts `is` still to come. -/
def State.awaiting (s : State) (is : List Input) : State := { s with inputs := is }

@[simp] theorem awaiting_inputs (s : State) (is : List Input) : (s.awaiting is).inputs = is := rfl
@[simp] theorem awaiting_busy (s : State) (is : List Input) : (s.awaiting is).busy = s.busy := rfl

theorem step_request {s : State} {w : Word} {rest : List Input} (h : s.inputs = .request w :: rest) :
    step s = requestLine w (s.awaiting rest) := by
  simp [step, act, h, State.awaiting]

theorem step_issue {s : State} {w : Word} {rest : List Input} (h : s.inputs = .issue w :: rest) :
    step s = issueLine w (s.awaiting rest) := by
  simp [step, act, h, State.awaiting]

theorem step_write {s : State} {idx : Nat} {v : Word} {rest : List Input} (h : s.inputs = .write idx v :: rest) :
    step s = .next (hostWrite idx v (s.awaiting rest)) := by
  simp [step, act, h, State.awaiting]

theorem step_read {s : State} {idx : Nat} {rest : List Input} (h : s.inputs = .read idx :: rest) :
    step s = hostRead idx (s.awaiting rest) := by
  simp [step, act, h, State.awaiting]

theorem step_wait {s : State} {rest : List Input} (h : s.inputs = .wait :: rest) :
    step s = .next (waitLine rest s) := by
  simp [step, act, h]

/-! ### BUSY and PHASE (10_state.md R25) -/

theorem busy_eq_false_iff {s : State} : s.busy = false ↔ s.phase = .idle := by
  cases h : s.phase <;> simp [State.busy, h]

theorem phase_idle_of_not_busy {s : State} (h : ¬ s.busy = true) : s.phase = .idle :=
  busy_eq_false_iff.mp (Bool.eq_false_iff.mpr h)

/-! ### Request lines and REQ writes (10_state.md R24) -/

theorem requestLine_idle {w : Word} {s : State} (h : s.busy = false) : requestLine w s = runRequest w s := by
  simp [requestLine, h]

theorem issueLine_idle {w : Word} {s : State} (h : s.busy = false) : issueLine w s = .next (latch w s) := by
  simp [issueLine, h]

theorem hostWrite_req_idle {w : Word} {s : State} (h : s.busy = false) : hostWrite 0 w s = latch w s := by
  simp [hostWrite, h]

theorem hostWrite_req_busy {w : Word} {s : State} (h : s.busy = true) : hostWrite 0 w s = s := by
  simp [hostWrite, h]

theorem hostWrite_other {idx : Nat} {v : Word} {s : State} (h : idx ≠ 0) : hostWrite idx v s = s := by
  simp [hostWrite, h]

theorem runRequest_instr {w : Word} {i : Instr} {s : State} (h : decode w = .instr i) :
    runRequest w s = exec i (latch w s) := by
  simp [runRequest, h]

theorem runRequest_invalid {w : Word} {why : Reject} {s : State} (h : decode w = .invalid why) :
    runRequest w s = .next (raise .invalidArgument 0 (latch w s)) := by
  simp [runRequest, h]

/-! ### Host reads (10_state.md R21, R23) -/

/-- A read other than one of STATUS with KIND = 7 answers (log 13). -/
theorem hostRead_next {idx : Nat} {s : State} (h : idx = 1 → s.kind ≠ 7) :
    hostRead idx s = .next { (if drawsFrom idx then spendDraw s else s) with rdata := s.readWord idx } := by
  have hk : ¬ (idx = 1 ∧ s.kind = 7) := fun hc => h hc.1 hc.2
  simp only [hostRead, if_neg hk]

theorem spendDraw_idle {s : State} (h : s.busy = false) : spendDraw s = s := by
  simp [spendDraw, h]

/-- A read that makes no draw changes `rdata` alone. -/
theorem hostRead_without_draw {idx : Nat} {s : State} (hk : idx = 1 → s.kind ≠ 7)
    (hd : drawsFrom idx = true → s.busy = false) : hostRead idx s = .next { s with rdata := s.readWord idx } := by
  have hspend : (if drawsFrom idx then spendDraw s else s) = s := by
    split
    · exact spendDraw_idle (hd ‹_›)
    · rfl
  rw [hostRead_next hk, hspend]

/-- A read has no side effect but the model's own `rdata` and `draws` (R23). -/
theorem hostRead_keeps {idx : Nat} {s t : State} (h : hostRead idx s = .next t) :
    t = { s with rdata := t.rdata, draws := t.draws } := by
  unfold hostRead at h
  split at h
  · cases h
  · cases h
    unfold spendDraw
    split
    · split <;> rfl
    · rfl

theorem readWord_unassigned {idx : Nat} (s : State) (h : idx = 0 ∨ 7 ≤ idx) : s.readWord idx = 0 := by
  obtain rfl | h := h
  · rfl
  · obtain ⟨k, rfl⟩ := Nat.exists_eq_add_of_le' h
    rfl

theorem drawsFrom_eq_true {idx : Nat} (h : drawsFrom idx = true) : idx = 1 ∨ idx = 5 := by
  unfold drawsFrom at h
  split at h <;> simp_all

theorem seen_idle {s : State} (h : s.busy = false) : s.seen = s.view := by
  simp [State.seen, h]

/-- What a read of the data registers returns, narrower ones zero-extended (10_state.md R21). -/
theorem readWord_data (s : State) (idx : Nat) :
    (idx = 2 → s.readWord idx = s.xferCode) ∧
    (idx = 3 → (s.readWord idx).toNat = s.resultData.toNat) ∧
    (idx = 4 → (s.readWord idx).toNat = s.rawAngle.toNat) ∧
    (idx = 6 → (s.readWord idx).toNat = s.crcAcc.toNat) := by
  refine ⟨?_, ?_, ?_, ?_⟩ <;> rintro rfl
  · rfl
  · exact BitVec.toNat_setWidth_of_le (by decide)
  · exact BitVec.toNat_setWidth_of_le (by decide)
  · exact BitVec.toNat_setWidth_of_le (by decide)

/-- The fields of STATUS (10_state.md R25). -/
theorem statusWord_fields (s : State) (cs : Bool) :
    (s.statusWord cs).extractLsb' 0 3 = s.kind ∧ (s.statusWord cs).getLsbD 3 = s.busy ∧
    (s.statusWord cs).getLsbD 4 = s.crcEn ∧ (s.statusWord cs).getLsbD 5 = s.crcOk ∧
    (s.statusWord cs).extractLsb' 6 3 = s.warn ∧ (s.statusWord cs).extractLsb' 10 22 = 0 ∧
    (s.statusWord cs).getLsbD 9 = cs := by
  refine ⟨?_, ?_, ?_, ?_, ?_, ?_, ?_⟩ <;> simp only [State.statusWord]
  · apply BitVec.eq_of_getLsbD_eq; intro i hi; interval_cases i <;> simp
  · simp
  · simp
  · simp
  · apply BitVec.eq_of_getLsbD_eq; intro i hi; interval_cases i <;> simp
  · apply BitVec.eq_of_getLsbD_eq; intro i hi; interval_cases i <;> simp
  · simp

end Sys2Proof.Machine

/-! SUPPORT. What one event can do (10_state.md R22, R40): the results stay until the end event, and no event reads the
acts still to come. -/

namespace Sys2Proof.Machine

/-! ### Events, one after another -/

theorem advance_idle {s : State} (h : s.phase = .idle) : advance s = s := by
  simp [advance, h]

theorem advances_settled {s : State} (h : advance s = s) (k : Nat) : advances k s = s := by
  induction k with
  | zero => rfl
  | succ k ih => rw [advances, h, ih]

theorem advances_add (m k : Nat) (s : State) : advances (m + k) s = advances k (advances m s) := by
  induction m generalizing s with
  | zero => rw [Nat.zero_add]; rfl
  | succ m ih => rw [Nat.succ_add, advances, ih]; rfl

/-- An operation that goes on after some events has not ended before. -/
theorem busy_of_busy_advances {k : Nat} {s : State} (h : (advances k s).busy = true) : s.busy = true := by
  by_contra hb
  rw [advances_settled (advance_idle (phase_idle_of_not_busy hb))] at h
  exact hb h

/-! ### One event, by PHASE (10_state.md R22) -/

theorem advance_decode {s : State} (h : s.phase = .decode) : advance s = decodeEvent s := by
  simp [advance, h]

theorem advance_bus {s : State} {op : BusOp} {point : Point} (h : s.phase = .bus op point) :
    advance s = busEvent op point s := by
  simp [advance, h]

theorem advance_post {s : State} (h : s.phase = .post) : advance s = postProcess s := by
  simp [advance, h]

theorem decodeEvent_instr {s : State} {i : Instr} (h : decode s.rq = .instr i) : decodeEvent s = beginOp i s := by
  simp [decodeEvent, h]

theorem decodeEvent_invalid {s : State} {why : Reject} (h : decode s.rq = .invalid why) :
    decodeEvent s = raise .invalidArgument 0 s := by
  simp [decodeEvent, h]

/-- Without an answer the block stays at the `Xfer` (41_transaction.md R126). -/
theorem busEvent_xfer_unanswered (op : BusOp) {s : State} (h : s.answers = []) : busEvent op .xfer s = s := by
  simp [busEvent, h]

theorem busEvent_xfer_answered (op : BusOp) {s : State} {a : Answer} {rest : List Answer}
    (h : s.answers = a :: rest) :
    busEvent op .xfer s = { takeAnswer a rest s with phase := .bus op .deassert } := by
  simp [busEvent, h]

theorem busEvent_judge_failed (op : BusOp) {s : State} (h : s.xst ≠ 0) :
    busEvent op .judge s = raise .transport s.xst s :=
  if_pos h

theorem busEvent_judge_received (op : BusOp) {s : State} (h : s.xst = 0) : busEvent op .judge s = op.absorb s :=
  if_neg (not_not_intro h)

/-! ### The last lines of an operation end it (60_exceptions.md R182, R183) -/

theorem ackCheck_phase (rx : List Byte) (s : State) : (ackCheck rx s).phase = .idle := by
  unfold ackCheck; split <;> rfl

theorem postProcess_phase (s : State) : (postProcess s).phase = .idle := by
  unfold postProcess
  split
  · split <;> rfl
  · rfl

/-! ### The results change only at the end event (10_state.md R40) -/

/-- The registers an operation reports in, the sampled CRC_EN beside them: what the host reads, FRAME, CS and
BUSY apart. -/
structure Results where
  kind : BitVec 3
  xferCode : Word
  crcEn : Bool
  crcOk : Bool
  warn : Warn
  resultData : Byte
  rawAngle : RawAngle
  crcAcc : Byte

/-- What a state holds in them. -/
def State.results (s : State) : Results where
  kind := s.kind
  xferCode := s.xferCode
  crcEn := s.crcEn
  crcOk := s.crcOk
  warn := s.warn
  resultData := s.resultData
  rawAngle := s.rawAngle
  crcAcc := s.crcAcc

/-- `t` comes from `s` by an event of an operation: it ends the operation, or it leaves the results alone. -/
def EndsOrKeepsResults (s t : State) : Prop := t.phase = .idle ∨ t.results = s.results

theorem beginOp_endsOrKeepsResults (i : Instr) (s : State) : EndsOrKeepsResults s (beginOp i s) := by
  cases i with
  | crcInit => exact .inl rfl
  | crcStep d => exact .inl rfl
  | readReg r => exact .inr rfl
  | writeReg r d => exact .inr rfl
  | angleDiscrete => exact .inr rfl
  | angleBurst => exact .inr rfl
  | autoZero => exact .inr rfl
  | progEeprom => exact .inr rfl

theorem decodeEvent_endsOrKeepsResults (s : State) : EndsOrKeepsResults s (decodeEvent s) := by
  cases hd : decode s.rq with
  | instr i => rw [decodeEvent_instr hd]; exact beginOp_endsOrKeepsResults i s
  | invalid why => rw [decodeEvent_invalid hd]; exact .inl rfl

theorem nextSubRead_results (s : State) : (nextSubRead s).results = s.results := by
  unfold nextSubRead; split <;> rfl

theorem absorb_endsOrKeepsResults (op : BusOp) (s : State) : EndsOrKeepsResults s (op.absorb s) := by
  cases op with
  | readReg r => exact .inl rfl
  | writeReg r d => exact .inl rfl
  | angleDiscrete => exact .inr (nextSubRead_results s)
  | angleBurst => exact .inr rfl
  | autoZero => exact .inl (ackCheck_phase s.rxb s)
  | progEeprom => exact .inl (ackCheck_phase s.rxb s)

theorem busEvent_endsOrKeepsResults (op : BusOp) (point : Point) (s : State) :
    EndsOrKeepsResults s (busEvent op point s) := by
  cases point with
  | release => exact .inr rfl
  | compose => exact .inr rfl
  | assert => exact .inr rfl
  | xfer =>
    cases ha : s.answers with
    | nil => rw [busEvent_xfer_unanswered op ha]; exact .inr rfl
    | cons a rest => rw [busEvent_xfer_answered op ha]; exact .inr rfl
  | deassert => exact .inr rfl
  | judge =>
    by_cases hs : s.xst = 0
    · rw [busEvent_judge_received op hs]; exact absorb_endsOrKeepsResults op s
    · rw [busEvent_judge_failed op hs]; exact .inl rfl

theorem advance_endsOrKeepsResults (s : State) : EndsOrKeepsResults s (advance s) := by
  cases hp : s.phase with
  | idle => rw [advance_idle hp]; exact .inr rfl
  | decode => rw [advance_decode hp]; exact decodeEvent_endsOrKeepsResults s
  | bus op point => rw [advance_bus hp]; exact busEvent_endsOrKeepsResults op point s
  | post => rw [advance_post hp]; exact .inl (postProcess_phase s)

theorem results_advance_of_busy {s : State} (h : (advance s).busy = true) : (advance s).results = s.results := by
  obtain hp | hr := advance_endsOrKeepsResults s
  · rw [busy_of_phase_idle hp] at h
    cases h
  · exact hr

theorem results_advances_of_busy {k : Nat} {s : State} (h : (advances k s).busy = true) :
    (advances k s).results = s.results := by
  induction k generalizing s with
  | zero => rfl
  | succ k ih => exact (ih h).trans (results_advance_of_busy (busy_of_busy_advances h))

/-- Settles O14. -/
theorem resultsChangeOnlyAtEndEvent : Obligations.ResultsChangeOnlyAtEndEvent := by
  intro s h
  have hr := results_advance_of_busy h
  exact ⟨congrArg Results.kind hr, congrArg Results.xferCode hr, congrArg Results.resultData hr,
    congrArg Results.rawAngle hr, congrArg Results.warn hr, congrArg Results.crcOk hr, congrArg Results.crcAcc hr⟩

/-! ### No event reads the acts still to come -/

theorem ackCheck_awaiting (rx : List Byte) (s : State) (is : List Input) :
    ackCheck rx (s.awaiting is) = (ackCheck rx s).awaiting is := by
  unfold ackCheck; split <;> rfl

theorem postProcess_awaiting (s : State) (is : List Input) :
    postProcess (s.awaiting is) = (postProcess s).awaiting is := by
  cases hc : s.crcEn with
  | false => rw [postProcess_without_crc s hc, postProcess_without_crc (s.awaiting is) hc]; rfl
  | true =>
    cases hm : crcCheck s.layout with
    | true => rw [postProcess_match s hc hm, postProcess_match (s.awaiting is) hc hm]; rfl
    | false => rw [postProcess_mismatch s hc hm, postProcess_mismatch (s.awaiting is) hc hm]; rfl

theorem beginOp_awaiting (i : Instr) (s : State) (is : List Input) :
    beginOp i (s.awaiting is) = (beginOp i s).awaiting is := by
  cases i <;> rfl

theorem decodeEvent_awaiting (s : State) (is : List Input) :
    decodeEvent (s.awaiting is) = (decodeEvent s).awaiting is := by
  cases hd : decode s.rq with
  | instr i =>
    rw [decodeEvent_instr hd, decodeEvent_instr (s := s.awaiting is) hd]
    exact beginOp_awaiting i s is
  | invalid why =>
    rw [decodeEvent_invalid hd, decodeEvent_invalid (s := s.awaiting is) hd]
    rfl

theorem nextSubRead_awaiting (s : State) (is : List Input) :
    nextSubRead (s.awaiting is) = (nextSubRead s).awaiting is := by
  simp only [nextSubRead, apply_ite (State.awaiting · is)]
  rfl

theorem absorb_awaiting (op : BusOp) (s : State) (is : List Input) :
    op.absorb (s.awaiting is) = (op.absorb s).awaiting is := by
  cases op with
  | readReg r => rfl
  | writeReg r d => rfl
  | angleDiscrete => exact nextSubRead_awaiting s is
  | angleBurst => rfl
  | autoZero => exact ackCheck_awaiting s.rxb s is
  | progEeprom => exact ackCheck_awaiting s.rxb s is

theorem busEvent_awaiting (op : BusOp) (point : Point) (s : State) (is : List Input) :
    busEvent op point (s.awaiting is) = (busEvent op point s).awaiting is := by
  cases point with
  | release => rfl
  | compose => cases op <;> rfl
  | assert => rfl
  | xfer =>
    cases ha : s.answers with
    | nil => rw [busEvent_xfer_unanswered op ha, busEvent_xfer_unanswered op (s := s.awaiting is) ha]
    | cons a rest => rw [busEvent_xfer_answered op ha, busEvent_xfer_answered op (s := s.awaiting is) ha]; rfl
  | deassert => rfl
  | judge =>
    by_cases hs : s.xst = 0
    · rw [busEvent_judge_received op hs, busEvent_judge_received op (s := s.awaiting is) hs]
      exact absorb_awaiting op s is
    · rw [busEvent_judge_failed op hs, busEvent_judge_failed op (s := s.awaiting is) hs]
      rfl

theorem advance_awaiting (s : State) (is : List Input) : advance (s.awaiting is) = (advance s).awaiting is := by
  cases hp : s.phase with
  | idle => rw [advance_idle hp, advance_idle (s := s.awaiting is) hp]
  | decode => rw [advance_decode hp, advance_decode (s := s.awaiting is) hp]; exact decodeEvent_awaiting s is
  | bus op point => rw [advance_bus hp, advance_bus (s := s.awaiting is) hp]; exact busEvent_awaiting op point s is
  | post => rw [advance_post hp, advance_post (s := s.awaiting is) hp]; exact postProcess_awaiting s is

theorem advances_awaiting (k : Nat) (s : State) (is : List Input) :
    advances k (s.awaiting is) = (advances k s).awaiting is := by
  induction k generalizing s with
  | zero => rfl
  | succ k ih => rw [advances, advance_awaiting, ih]; rfl

end Sys2Proof.Machine

/-! SUPPORT. The statements about host accesses and request lines: each act's rule, then the registers it shows. -/

namespace Sys2Proof.Machine

/-- Settles O49: every register is at a value the invariant allows, and no operation is in progress. -/
theorem powerOnMeetsInvariant : Obligations.PowerOnMeetsInvariant := by
  have hinv (p : Params) (c : Bool) : (State.powerOn p c).Inv :=
    { kind_written := List.mem_cons_self
      code_iff_transport := iff_of_false (show (0 : BitVec 3) ≠ _ by decide) (not_not_intro rfl)
      code_width := portStatus_zero p
      status_width := portStatus_zero p
      crc_off := fun _ => ⟨rfl, show (0 : BitVec 3) ≠ _ by decide⟩
      crc_failed := fun _ => rfl
      frame_reserved := ⟨rfl, rfl⟩
      cs_follows_phase := rfl
      trace_brackets := rfl
      buffers_bounded := ⟨Nat.zero_le 6, Nat.zero_le 6⟩
      idx_bounded := Nat.zero_le 3
      idx_subread := fun _ h => nomatch h
      held_idle := fun _ => rfl }
  exact ⟨hinv, hinv Params.default false⟩

/-- Settles O7. -/
theorem stepRunsDecodedRequest : Obligations.StepRunsDecodedRequest := by
  intro s w rest i hin hidle hdec
  have hb : (s.awaiting rest).busy = false := busy_of_phase_idle hidle
  rw [step_request hin, requestLine_idle hb, runRequest_instr hdec]
  rfl

/-- Settles O8: a raw write and a program's line both latch the word when idle. -/
theorem reqWriteStartsOrIsIgnored : Obligations.ReqWriteStartsOrIsIgnored := by
  intro s w rest
  refine ⟨fun hin hb => ⟨latch w (s.awaiting rest), ?_, rfl, rfl⟩, fun hin hb => ?_⟩
  · obtain hin | hin := hin
    · rw [step_write hin, hostWrite_req_idle (s := s.awaiting rest) hb]
    · rw [step_issue hin, issueLine_idle (s := s.awaiting rest) hb]
  · rw [step_write hin, hostWrite_req_busy (s := s.awaiting rest) hb]
    rfl

/-- Settles O11. -/
theorem hostAccessRules : Obligations.HostAccessRules := by
  refine ⟨fun s idx rest hin hidx => ?_, fun s idx v rest hin hidx => ?_, fun s t idx rest hin ht => ?_⟩
  · have hdraw : drawsFrom idx ≠ true := fun h => by have := drawsFrom_eq_true h; omega
    rw [step_read hin, hostRead_without_draw (by omega) (absurd · hdraw), readWord_unassigned _ hidx]
    rfl
  · rw [step_write hin, hostWrite_other hidx]
    rfl
  · exact hostRead_keeps (step_read hin ▸ ht)

/-- Settles O12: `readWord` is read register by register; while BUSY = 1 the results are those before the operation. -/
theorem hostReadsReturnRegisters : Obligations.HostReadsReturnRegisters := by
  refine ⟨fun s idx rest hin hidx => ?_, fun s rest hin hk => ?_, fun s rest hin hidle => ?_,
    fun s u w k idx rest hidle hu hb hk => ?_⟩
  · have hall : ∀ j ∈ [2, 3, 4, 6], j ≠ 1 ∧ drawsFrom j ≠ true := by decide
    have hne := hall idx hidx
    refine ⟨(s.awaiting rest).readWord idx, ?_, readWord_data (s.awaiting rest) idx⟩
    rw [step_read hin, hostRead_without_draw (absurd · hne.1) (absurd · hne.2)]
    rfl
  · obtain ⟨hkind, hbusy, hen, hok, hwarn, htop, hcs⟩ := statusWord_fields s (s.awaiting rest).seen.cs
    refine ⟨_, (step_read hin).trans (hostRead_next fun _ => hk), hkind, hbusy, hen, hok, hwarn, htop, fun hidle => ?_⟩
    have hb : (s.awaiting rest).busy = false := busy_of_phase_idle hidle
    refine ⟨hcs.trans (by rw [seen_idle hb]; rfl), ?_⟩
    simp only [spendDraw_idle hb, ite_self]
    rfl
  · have hb : (s.awaiting rest).busy = false := busy_of_phase_idle hidle
    rw [step_read hin, hostRead_without_draw (absurd · (by decide)) fun _ => hb]
    simp only [State.readWord, seen_idle hb]
    rfl
  · subst hu
    have hres : (advances k (latch w s)).results = s.results := results_advances_of_busy hb
    obtain ⟨h2, h3, h4, h6⟩ := readWord_data ((advances k (latch w s)).awaiting rest) idx
    refine ⟨_, (step_read rfl).trans (hostRead_next fun h => ?_), ?_, fun h => ?_, fun h => ?_, fun h => ?_,
      fun h => ?_⟩
    · exact (congrArg Results.kind hres).trans_ne (hk h)
    · rintro rfl
      obtain ⟨hkind, hbusy, hen, hok, hwarn, -, -⟩ := statusWord_fields ((advances k (latch w s)).awaiting rest)
        ((advances k (latch w s)).awaiting rest).seen.cs
      exact ⟨hkind.trans (congrArg Results.kind hres), hbusy.trans hb, hen.trans (congrArg Results.crcEn hres),
        hok.trans (congrArg Results.crcOk hres), hwarn.trans (congrArg Results.warn hres)⟩
    · exact (h2 h).trans (congrArg Results.xferCode hres)
    · exact (h3 h).trans (congrArg (·.resultData.toNat) hres)
    · exact (h4 h).trans (congrArg (·.rawAngle.toNat) hres)
    · exact (h6 h).trans (congrArg (·.crcAcc.toNat) hres)

/-! ### Draws (10_state.md R40; log 10, log 18) -/

theorem mem_futureViews {n : Nat} {s : State} {v : View} (h : v ∈ futureViews n s) :
    ∃ k, v = (advances k s).view := by
  induction n generalizing s with
  | zero => cases h
  | succ n ih =>
    cases hb : s.busy with
    | false => simp [futureViews, hb] at h
    | true =>
      simp only [futureViews, hb, if_true, List.mem_cons] at h
      obtain rfl | h := h
      · exact ⟨1, rfl⟩
      · obtain ⟨k, hk⟩ := ih h
        exact ⟨k + 1, hk⟩

/-- A draw gives one of the values held, whatever `Config.draw` is. -/
theorem seen_mem_views (s : State) : s.seen ∈ s.views := by
  have hmem : s.view ∈ s.views := by simp [State.views]
  unfold State.seen
  split
  · rw [List.getD_eq_getElem _ _ (Nat.mod_lt _ (List.length_pos_of_mem hmem))]
    exact List.getElem_mem _
  · exact hmem

theorem mem_views {s : State} {v : View} (h : v ∈ s.views) : v ∈ s.held ∨ ∃ k, v = (advances k s).view := by
  simp only [State.views, List.mem_append, List.mem_singleton] at h
  obtain (h | rfl) | h := h
  · exact .inl h
  · exact .inr ⟨0, rfl⟩
  · exact .inr (mem_futureViews h)

/-- Settles O13: the read's draw is among the views, and the events that give them do not read the acts to come. -/
theorem busyReadsDrawHeldValues : Obligations.BusyReadsDrawHeldValues := by
  intro s idx rest hin _ hk _
  refine ⟨_, (s.awaiting rest).seen, (step_read hin).trans (hostRead_next fun _ => hk), ?_, ?_, ?_⟩
  · obtain h | ⟨k, h⟩ := mem_views (seen_mem_views (s.awaiting rest))
    · exact .inl h
    · rw [advances_awaiting] at h
      exact .inr ⟨k, h⟩
  · rintro rfl
    rfl
  · rintro rfl
    rfl

end Sys2Proof.Machine

/-! SUPPORT. What a transaction leaves alone (41_transaction.md R122), whatever its outcome. -/

namespace Sys2Proof.Machine

/-- The state in which a bracket leaves the block. -/
def Bracket.state : Bracket → State
  | .received _ s => s
  | .stopped s => s

/-- `s` with what a transaction writes blotted out. -/
def State.offBus (s : State) : State :=
  { s with
    kind := 0, xferCode := 0, cs := false, frame := ⟨0, 0, 0, 0, s.frame.trail⟩, phase := .idle, txb := [], rxb := [],
    xst := 0, answers := [], bus := [], held := [] }

/-- A transaction composes FRAME (R121) and leaves alone all that `offBus` does not blot out. -/
theorem transaction_leaves (op : BusOp) (cmd : Nibble) (reg : Byte) (d : DataArg) (n : Nat) (s : State) :
    (transaction op cmd reg d n s).state.offBus = s.offBus ∧
    (transaction op cmd reg d n s).state.frame = s.frame.composed cmd reg d := by
  cases ha : s.answers with
  | nil => rw [transaction_unanswered op cmd reg d n s ha]; exact ⟨rfl, rfl⟩
  | cons a rest =>
    by_cases hs : s.params.portStatus a.status = 0
    · rw [transaction_received op cmd reg d n s a rest ha hs]; exact ⟨rfl, rfl⟩
    · rw [transaction_failed op cmd reg d n s a rest ha hs]; exact ⟨rfl, rfl⟩

end Sys2Proof.Machine

/-! SUPPORT. The two forms of an operation, event by event and whole, reach the same state (10_state.md R22; log 2,
log 15). -/

namespace Sys2Proof.Machine

/-! ### Settling -/

/-- From `s` the block comes to `t` in at most `n` events, and no event moves it from there: it is IDLE, or it waits. -/
def Settles (n : Nat) (s t : State) : Prop := advance t = t ∧ ∃ m ≤ n, advances m s = t

theorem Settles.advances_eq {n : Nat} {s t : State} (h : Settles n s t) : advances n s = t := by
  obtain ⟨hstay, m, hmn, hm⟩ := h
  rw [← Nat.add_sub_cancel' hmn, advances_add, hm, advances_settled hstay]

theorem Settles.mono {n n' : Nat} {s t : State} (h : Settles n s t) (hn : n ≤ n') : Settles n' s t := by
  obtain ⟨hstay, m, hmn, hm⟩ := h
  exact ⟨hstay, m, hmn.trans hn, hm⟩

theorem Settles.after {n : Nat} {s t : State} (m : Nat) (h : Settles n (advances m s) t) : Settles (m + n) s t := by
  obtain ⟨hstay, k, hkn, hk⟩ := h
  exact ⟨hstay, m + k, Nat.add_le_add_left hkn m, (advances_add m k s).trans hk⟩

theorem settles_of_idle {s : State} (h : s.phase = .idle) : Settles 0 s s :=
  ⟨advance_idle h, 0, Nat.le_refl 0, rfl⟩

/-! ### The six events of a transaction (41_transaction.md R122) -/

/-- The block at the first event of a transaction of `op`. -/
def entering (op : BusOp) (s : State) : State := { s with phase := .bus op .release }

/-- The transaction that `op` asks for in state `s` (30_encoding.md R77). -/
def BusOp.bracket (op : BusOp) (s : State) : Bracket :=
  transaction op (op.transfer s).cmd (op.transfer s).reg (op.transfer s).data (op.transfer s).n s

/-- The block with the transfer of `op` offered. -/
def BusOp.offer (op : BusOp) (s : State) : State :=
  offered op (op.transfer s).cmd (op.transfer s).reg (op.transfer s).data (op.transfer s).n s

theorem advances_entering (op : BusOp) (s : State) : advances 3 (entering op s) = op.offer s := by
  cases op <;> rfl

/-- The block after the answer `a` and the release that follows it. -/
def BusOp.answered (op : BusOp) (a : Answer) (rest : List Answer) (s : State) : State :=
  csWrite false (takeAnswer a rest (op.offer s))

theorem advances_offer (op : BusOp) {s : State} {a : Answer} {rest : List Answer} (h : s.answers = a :: rest) :
    advances 3 (op.offer s) = busEvent op .judge { op.answered a rest s with phase := .bus op .judge } := by
  have hx : advance (op.offer s) = { takeAnswer a rest (op.offer s) with phase := .bus op .deassert } :=
    busEvent_xfer_answered op h
  rw [advances, hx]
  rfl

theorem bracket_answered (op : BusOp) {s : State} {a : Answer} {rest : List Answer} (h : s.answers = a :: rest) :
    op.bracket s =
      if (op.answered a rest s).xst ≠ 0 then
        .stopped (raise .transport (op.answered a rest s).xst (op.answered a rest s))
      else .received (op.answered a rest s).rxb (op.answered a rest s) := by
  have ho : (offered op (op.transfer s).cmd (op.transfer s).reg (op.transfer s).data (op.transfer s).n s).answers =
      a :: rest := h
  simp only [BusOp.bracket, transaction, ho]
  rfl

/-- How the events of a transaction follow its whole form: they settle where it stops, and where it succeeds the
operation goes on with the bytes received (R122). -/
def Bracket.FollowedFrom (b : Bracket) (op : BusOp) (s : State) : Prop :=
  match b with
  | .stopped t => Settles 6 (entering op s) t
  | .received rx t => t.rxb = rx ∧ advances 6 (entering op s) = op.absorb { t with phase := .bus op .judge }

theorem bracket_followed (op : BusOp) (s : State) : (op.bracket s).FollowedFrom op s := by
  have hoffer : advances 3 (entering op s) = op.offer s := advances_entering op s
  cases ha : s.answers with
  | nil =>
    have hb : op.bracket s = .stopped (op.offer s) := by
      rw [BusOp.bracket, transaction_unanswered _ _ _ _ _ s ha, BusOp.offer, offered_eq_waiting]
    rw [hb]
    exact ⟨busEvent_xfer_unanswered op ha, 3, by decide, hoffer⟩
  | cons a rest =>
    have hsix : advances 6 (entering op s) =
        busEvent op .judge { op.answered a rest s with phase := .bus op .judge } := by
      rw [advances_add 3 3, hoffer, advances_offer op ha]
    rw [bracket_answered op ha]
    split
    next hs => exact ⟨advance_idle rfl, 6, Nat.le_refl 6, hsix.trans (busEvent_judge_failed op hs)⟩
    next hs => exact ⟨rfl, hsix.trans (busEvent_judge_received op (not_not.mp hs))⟩

/-! ### An operation of one transaction -/

/-- The whole form of operation `i` in state `s` answers the state in which its events settle. -/
def ReachedByEvents (n : Nat) (o : Host.Outcome State Fault Refusal) (s : State) : Prop :=
  ∃ t, o = .next t ∧ Settles n s t

theorem ReachedByEvents.mono {n n' : Nat} {o : Host.Outcome State Fault Refusal} {s : State} (h : ReachedByEvents n o s)
    (hn : n ≤ n') : ReachedByEvents n' o s := by
  obtain ⟨t, ht, hset⟩ := h
  exact ⟨t, ht, hset.mono hn⟩

/-- If what `op` does with the bytes received settles in what the whole form does with them, so do all its events. -/
theorem andThen_reachedByEvents {op : BusOp} {s : State} {m : Nat} {k : List Byte → State → State}
    (hk : ∀ t, Settles m (op.absorb { t with phase := .bus op .judge }) (k t.rxb t)) :
    ReachedByEvents (6 + m) ((op.bracket s).andThen k) (entering op s) := by
  have hb := bracket_followed op s
  cases h : op.bracket s with
  | stopped t =>
    rw [h] at hb
    exact ⟨t, rfl, Settles.mono hb (Nat.le_add_right 6 m)⟩
  | received rx t =>
    rw [h] at hb
    obtain ⟨rfl, hsix⟩ := hb
    exact ⟨k t.rxb t, rfl, Settles.after 6 (hsix ▸ hk t)⟩

theorem post_settles {s : State} (h : s.phase = .post) : Settles 1 s (postProcess s) :=
  ⟨advance_idle (postProcess_phase s), 1, Nat.le_refl 1, advance_post h⟩

/-! ### The loop of ANGLE_DISCRETE (42_angle.md R153) -/

theorem nextSubRead_more {s : State} (h : s.idx + 1 < (discreteRegs s.params s.crcEn).length) :
    nextSubRead s = entering .angleDiscrete { storeLayout s.idx s.rxb s with idx := s.idx + 1 } :=
  if_pos h

theorem nextSubRead_last {s : State} (h : (discreteRegs s.params s.crcEn).length = s.idx + 1) :
    nextSubRead s = { storeLayout s.idx s.rxb s with phase := .post } :=
  if_neg (by omega)

/-- From sub-read `k` on, `before` the registers already read; the last sub-read is followed by PostProcess. -/
theorem subReads_reachedByEvents (before regs : List Byte) (k : Nat) (s : State) (hne : regs ≠ [])
    (hk : before.length = k) (hregs : discreteRegs s.params s.crcEn = before ++ regs) :
    ReachedByEvents (6 * regs.length + 1) ((subReads k regs s).andThen fun _ t => postProcess t)
      (entering .angleDiscrete { s with idx := k }) := by
  induction regs generalizing before k s with
  | nil => exact absurd rfl hne
  | cons reg regs ih =>
    have hreg : (discreteRegs s.params s.crcEn).getD k 0 = reg := by simp [hregs, ← hk]
    have hbracket : BusOp.bracket .angleDiscrete { s with idx := k } =
        transaction .angleDiscrete s.params.cmdRead reg .keep 3 { s with idx := k } := by
      simp only [BusOp.bracket, BusOp.transfer, hreg]
    have hb := bracket_followed .angleDiscrete { s with idx := k }
    obtain ⟨hleaves, -⟩ := transaction_leaves .angleDiscrete s.params.cmdRead reg .keep 3 { s with idx := k }
    rw [hbracket] at hb
    rw [subReads]
    cases h : transaction .angleDiscrete s.params.cmdRead reg .keep 3 { s with idx := k } with
    | stopped t =>
      rw [h] at hb
      exact ⟨t, rfl, Settles.mono hb (by simp; omega)⟩
    | received rx t =>
      rw [h] at hb hleaves
      obtain ⟨rfl, hsix⟩ := hb
      have hidx : t.idx = k := congrArg State.idx hleaves
      have hdisc : discreteRegs t.params t.crcEn = before ++ reg :: regs :=
        (congrArg (fun u => discreteRegs u.params u.crcEn) hleaves).trans hregs
      have hlen : (discreteRegs t.params t.crcEn).length = k + 1 + regs.length := by
        simp [hdisc, hk]; omega
      subst hidx
      cases regs with
      | nil =>
        refine ⟨postProcess (storeLayout t.idx t.rxb t), rfl, Settles.after 6 ?_⟩
        rw [hsix, BusOp.absorb, nextSubRead_last (s := { t with phase := .bus .angleDiscrete .judge }) hlen]
        exact post_settles rfl
      | cons r rs =>
        obtain ⟨u, hu, hset⟩ := ih (before ++ [reg]) (t.idx + 1) (storeLayout t.idx t.rxb t) (List.cons_ne_nil r rs)
          (by simp [hk]) (by simpa using hdisc)
        refine ⟨u, hu, (Settles.after 6 (n := 6 * (r :: rs).length + 1) ?_).mono (by simp; omega)⟩
        rw [hsix, BusOp.absorb, nextSubRead_more (s := { t with phase := .bus .angleDiscrete .judge })
          (by simp only [hlen, List.length_cons]; omega)]
        exact hset

/-! ### Every operation -/

/-- After request decode an operation has at most four transactions, and PostProcess after them. -/
theorem exec_reachedByEvents (i : Instr) (s : State) : ReachedByEvents 25 (exec i s) (beginOp i s) := by
  cases i with
  | crcInit => exact ⟨_, rfl, (settles_of_idle rfl).mono (by decide)⟩
  | crcStep d => exact ⟨_, rfl, (settles_of_idle rfl).mono (by decide)⟩
  | readReg r => exact (andThen_reachedByEvents fun _ => settles_of_idle rfl).mono (by decide)
  | writeReg r d => exact (andThen_reachedByEvents fun _ => settles_of_idle rfl).mono (by decide)
  | angleDiscrete =>
    have hlen := discreteRegs_length_le s.params s.crcEn
    exact (subReads_reachedByEvents [] _ 0 s (discreteRegs_ne_nil s.params s.crcEn) rfl rfl).mono (by omega)
  | angleBurst => exact (andThen_reachedByEvents (op := .angleBurst) fun _ => post_settles rfl).mono (by decide)
  | autoZero =>
    exact (andThen_reachedByEvents (op := .autoZero) fun t => settles_of_idle (ackCheck_phase t.rxb t)).mono
      (by decide)
  | progEeprom =>
    exact (andThen_reachedByEvents (op := .progEeprom) fun t => settles_of_idle (ackCheck_phase t.rxb t)).mono
      (by decide)

/-- Settles O47: request decode is the first event, and the operation's events settle in its whole form's outcome. -/
theorem eventsReachOperationOutcome : Obligations.EventsReachOperationOutcome := by
  intro w s
  have hdecode : advance (latch w s) = decodeEvent (latch w s) := advance_decode rfl
  rw [eventBound, advances, hdecode]
  cases hd : decode w with
  | instr i =>
    obtain ⟨t, ht, hset⟩ := exec_reachedByEvents i (latch w s)
    rw [runRequest_instr hd, decodeEvent_instr hd, ht, (hset.mono (by decide : 25 ≤ 31)).advances_eq]
  | invalid why =>
    rw [runRequest_invalid hd, decodeEvent_invalid hd, advances_settled (advance_idle rfl)]

/-! ### A REQ write and its WAIT (30_encoding.md R81, R82) -/

theorem core_run_succ {s t : State} (h : step s = .next t) (n : Nat) : core.run (n + 1) s = core.run n t := by
  have hcore : core.step s = .next t := h
  simp only [Host.Core.run, hcore]

theorem step_wait_idle {s : State} (rest : List Input) (h : s.busy = false) :
    step (s.awaiting (.wait :: rest)) = .next (s.awaiting rest) := by
  simp only [step_wait (awaiting_inputs s _), waitLine, awaiting_busy, h]
  rfl

theorem step_wait_busy {s : State} (rest : List Input) (h : s.busy = true) :
    step (s.awaiting (.wait :: rest)) = .next ((advance s).awaiting (.wait :: rest)) := by
  simp only [step_wait (awaiting_inputs s _), waitLine, awaiting_busy, h, if_true, advance_awaiting]

/-- A WAIT performs the events up to the one that ends the operation, and then hands on to the acts after it. -/
theorem run_wait_reaches {rest : List Input} {k : Nat} {s : State} (hend : (advances k s).busy = false) :
    ∃ n, core.run n (s.awaiting (.wait :: rest)) = .next ((advances k s).awaiting rest) := by
  induction k generalizing s with
  | zero => exact ⟨1, core_run_succ (step_wait_idle rest hend) 0⟩
  | succ k ih =>
    cases hb : s.busy with
    | false =>
      rw [advances_settled (advance_idle (busy_eq_false_iff.mp hb))]
      exact ⟨1, core_run_succ (step_wait_idle rest hb) 0⟩
    | true =>
      obtain ⟨n, hn⟩ := ih (s := advance s) hend
      exact ⟨n + 1, (core_run_succ (step_wait_busy rest hb) n).trans hn⟩

/-- Settles O48: after the REQ write, WAIT performs the events that reach the request line's outcome. -/
theorem writeThenWaitReachesOutcome : Obligations.WriteThenWaitReachesOutcome := by
  intro s t w rest hidle hin hline hend
  have hb (is : List Input) : (s.awaiting is).busy = false := busy_of_phase_idle hidle
  have hout : runRequest w (s.awaiting rest) = .next t := (requestLine_idle (hb rest)).symm.trans hline
  obtain rfl : advances eventBound (latch w (s.awaiting rest)) = t := by
    rw [eventsReachOperationOutcome w (s.awaiting rest)] at hout
    exact Host.Outcome.next.inj hout
  have hissue : step s = .next (latch w (s.awaiting (.wait :: rest))) :=
    (step_issue hin).trans (issueLine_idle (hb _))
  obtain ⟨n, hn⟩ := run_wait_reaches (rest := rest) hend
  refine ⟨n + 1, (core_run_succ hissue n).trans (hn.trans ?_)⟩
  rw [← advances_awaiting]
  rfl

end Sys2Proof.Machine

/-! SUPPORT. No operation reads what an earlier one left in a hidden buffer or a flag (10_state.md R39, R42): runs from
two states that differ in these alone keep in step. -/

namespace Sys2Proof.Machine

/-! ### Two brackets in step -/

/-- Two runs of a bracket go the same way: both stop, in states related by `fin`, or both receive the same bytes, in
states related by `mid`. -/
inductive Bracket.InStep (mid fin : State → State → Prop) : Bracket → Bracket → Prop
  | stopped {t u : State} (h : fin t u) : InStep mid fin (.stopped t) (.stopped u)
  | received {rx : List Byte} {t u : State} (h : mid t u) : InStep mid fin (.received rx t) (.received rx u)

/-- A bracket whose successful end goes on to another bracket. -/
def Bracket.bind (b : Bracket) (k : List Byte → State → Bracket) : Bracket :=
  match b with
  | .received rx s => k rx s
  | .stopped s => .stopped s

theorem subReads_cons (k : Nat) (reg : Byte) (regs : List Byte) (s : State) :
    subReads k (reg :: regs) s = (transaction .angleDiscrete s.params.cmdRead reg .keep 3 { s with idx := k }).bind
      fun rx t => subReads (k + 1) regs (storeLayout k rx t) := by
  rw [subReads]
  cases transaction .angleDiscrete s.params.cmdRead reg .keep 3 { s with idx := k } <;> rfl

theorem Bracket.InStep.bind {mid mid' fin : State → State → Prop} {b c : Bracket} {k : List Byte → State → Bracket}
    (h : b.InStep mid fin c) (hk : ∀ rx t u, mid t u → (k rx t).InStep mid' fin (k rx u)) :
    (b.bind k).InStep mid' fin (c.bind k) := by
  cases h with
  | stopped h => exact .stopped h
  | received h => exact hk _ _ _ h

/-- Two outcomes are next states related by `fin`. -/
def NextInStep (fin : State → State → Prop) (o p : Host.Outcome State Fault Refusal) : Prop :=
  ∃ t u, o = .next t ∧ p = .next u ∧ fin t u

theorem Bracket.InStep.andThen {mid fin : State → State → Prop} {b c : Bracket} {k : List Byte → State → State}
    (h : b.InStep mid fin c) (hk : ∀ rx t u, mid t u → fin (k rx t) (k rx u)) :
    NextInStep fin (b.andThen k) (c.andThen k) := by
  cases h with
  | stopped h => exact ⟨_, _, rfl, rfl, h⟩
  | received h => exact ⟨_, _, rfl, rfl, hk _ _ _ h⟩

/-- The loop of ANGLE_DISCRETE keeps in step if each sub-read does and `L[k] <- rx[2]` does; `mid k` is what relates the
runs before sub-read `k`. -/
theorem subReads_inStep {mid : Nat → State → State → Prop} {fin : State → State → Prop}
    (hread : ∀ k reg s u, mid k s u →
      (transaction .angleDiscrete s.params.cmdRead reg .keep 3 { s with idx := k }).InStep (mid k) fin
        (transaction .angleDiscrete u.params.cmdRead reg .keep 3 { u with idx := k }))
    (hstore : ∀ k rx t u, mid k t u → mid (k + 1) (storeLayout k rx t) (storeLayout k rx u))
    (k : Nat) (regs : List Byte) {s u : State} (h : mid k s u) :
    (subReads k regs s).InStep (mid (k + regs.length)) fin (subReads k regs u) := by
  induction regs generalizing k s u with
  | nil => exact .received h
  | cons reg regs ih =>
    have hlen : k + (reg :: regs).length = (k + 1) + regs.length := by simp; omega
    rw [subReads_cons, subReads_cons, hlen]
    exact (hread k reg s u h).bind fun rx t v htv => ih (k + 1) (hstore k rx t v htv)

theorem discreteRegs_length (p : Params) (c : Bool) : (discreteRegs p c).length = if c then 4 else 3 := by
  cases c <;> rfl

/-! ### The hidden buffers (10_state.md R39) -/

/-- Two layouts agree in the bytes below `n`. -/
def Layout.AgreeBelow (n : Nat) (l m : Layout) : Prop :=
  (0 < n → l.l0 = m.l0) ∧ (1 < n → l.l1 = m.l1) ∧ (2 < n → l.l2 = m.l2) ∧ (3 < n → l.l3 = m.l3)

theorem Layout.AgreeBelow.put {k : Nat} {l m : Layout} (h : l.AgreeBelow k m) (b : Byte) :
    (l.put k b).AgreeBelow (k + 1) (m.put k b) := by
  obtain ⟨h0, h1, h2, h3⟩ := h
  match k with
  | 0 => exact ⟨fun _ => rfl, by omega, by omega, by omega⟩
  | 1 => exact ⟨fun _ => h0 (by omega), fun _ => rfl, by omega, by omega⟩
  | 2 => exact ⟨fun _ => h0 (by omega), fun _ => h1 (by omega), fun _ => rfl, by omega⟩
  | 3 => exact ⟨fun _ => h0 (by omega), fun _ => h1 (by omega), fun _ => h2 (by omega), fun _ => rfl⟩
  | k + 4 => exact ⟨fun _ => h0 (by omega), fun _ => h1 (by omega), fun _ => h2 (by omega), fun _ => h3 (by omega)⟩

theorem Layout.AgreeBelow.eq {l m : Layout} (h : l.AgreeBelow 4 m) : l = m := by
  obtain ⟨h0, h1, h2, h3⟩ := h
  cases l
  cases m
  simp_all

/-- A burst writes all the bytes of L that PostProcess consults. -/
theorem ofBurst_agreeBelow (l m : Layout) (c : Bool) (rx : List Byte) :
    (l.ofBurst c rx).AgreeBelow (if c then 4 else 3) (m.ofBurst c rx) := by
  cases c with
  | false => exact ⟨fun _ => rfl, fun _ => rfl, fun _ => rfl, fun h => absurd h (by decide)⟩
  | true => exact ⟨fun _ => rfl, fun _ => rfl, fun _ => rfl, fun _ => rfl⟩

/-- `s` with other values in its hidden buffers. -/
def State.withHidden (s : State) (l : Layout) (tx rx : List Byte) (st : Word) (k : Nat) : State :=
  { s with layout := l, txb := tx, rxb := rx, xst := st, idx := k }

/-- `u` is `s` but for its hidden buffers. -/
def HiddenDiffer (s u : State) : Prop := ∃ l tx rx st k, u = s.withHidden l tx rx st k

/-- The same of two runs with CRC_EN = `c` inside an operation that has written the bytes of L below `n`. -/
def HiddenDifferFrom (c : Bool) (n : Nat) (s u : State) : Prop :=
  s.crcEn = c ∧ ∃ l tx rx st k, s.layout.AgreeBelow n l ∧ u = s.withHidden l tx rx st k

theorem transaction_hidden (op : BusOp) (cmd : Nibble) (reg : Byte) (d : DataArg) (len : Nat) {c : Bool} {n : Nat}
    {s u : State} (h : HiddenDifferFrom c n s u) :
    (transaction op cmd reg d len s).InStep (HiddenDifferFrom c n) HiddenDiffer (transaction op cmd reg d len u) := by
  obtain ⟨hc, l, tx, rx, st, k, hl, rfl⟩ := h
  cases ha : s.answers with
  | nil =>
    rw [transaction_unanswered op cmd reg d len s ha,
      transaction_unanswered op cmd reg d len (s.withHidden l tx rx st k) ha]
    exact .stopped ⟨l, _, rx, st, k, rfl⟩
  | cons a rest =>
    by_cases hs : s.params.portStatus a.status = 0
    · rw [transaction_received op cmd reg d len s a rest ha hs,
        transaction_received op cmd reg d len (s.withHidden l tx rx st k) a rest ha hs]
      exact .received ⟨hc, l, _, _, 0, k, hl, rfl⟩
    · rw [transaction_failed op cmd reg d len s a rest ha hs,
        transaction_failed op cmd reg d len (s.withHidden l tx rx st k) a rest ha hs]
      exact .stopped ⟨l, _, _, _, k, rfl⟩

theorem ackCheck_hidden {c : Bool} {n : Nat} (rx : List Byte) {s u : State} (h : HiddenDifferFrom c n s u) :
    HiddenDiffer (ackCheck rx s) (ackCheck rx u) := by
  obtain ⟨-, l, tx, rx', st, k, -, rfl⟩ := h
  unfold ackCheck
  split <;> exact ⟨l, tx, rx', st, k, rfl⟩

theorem publish_hidden {s : State} {l : Layout} (h : s.layout.AgreeBelow 3 l) (tx rx : List Byte) (st : Word)
    (k : Nat) : publish (s.withHidden l tx rx st k) = (publish s).withHidden l tx rx st k := by
  obtain ⟨h0, h1, h2, -⟩ := h
  simp only [publish, State.withHidden, h0 (by decide), h1 (by decide), h2 (by decide)]

/-- PostProcess consults no byte of L but those its operation has written (42_angle.md R152). -/
theorem postProcess_hidden {c : Bool} {s u : State} (h : HiddenDifferFrom c (if c then 4 else 3) s u) :
    HiddenDiffer (postProcess s) (postProcess u) := by
  obtain ⟨hc, l, tx, rx, st, k, hl, rfl⟩ := h
  cases c with
  | false =>
    rw [postProcess_without_crc s hc, postProcess_without_crc (s.withHidden l tx rx st k) hc, publish_hidden hl]
    exact ⟨l, tx, rx, st, k, rfl⟩
  | true =>
    obtain rfl := hl.eq
    cases hm : crcCheck s.layout with
    | true =>
      rw [postProcess_match s hc hm, postProcess_match (s.withHidden s.layout tx rx st k) hc hm]
      exact ⟨s.layout, tx, rx, st, k, rfl⟩
    | false =>
      rw [postProcess_mismatch s hc hm, postProcess_mismatch (s.withHidden s.layout tx rx st k) hc hm]
      exact ⟨s.layout, tx, rx, st, k, rfl⟩

theorem exec_hidden (i : Instr) {s u : State} (h : HiddenDifferFrom s.crcEn 0 s u) :
    NextInStep HiddenDiffer (exec i s) (exec i u) := by
  have hu := h
  obtain ⟨-, l, tx, rx, st, k, -, rfl⟩ := hu
  cases i with
  | crcInit => exact ⟨_, _, rfl, rfl, l, tx, rx, st, k, rfl⟩
  | crcStep d => exact ⟨_, _, rfl, rfl, l, tx, rx, st, k, rfl⟩
  | readReg r =>
    refine (transaction_hidden _ _ _ _ _ h).andThen ?_
    rintro rx t u ⟨-, l, tx, rx', st, k, -, rfl⟩
    exact ⟨l, tx, rx', st, k, rfl⟩
  | writeReg r d =>
    refine (transaction_hidden _ _ _ _ _ h).andThen ?_
    rintro rx t u ⟨-, l, tx, rx', st, k, -, rfl⟩
    exact ⟨l, tx, rx', st, k, rfl⟩
  | angleDiscrete =>
    refine (subReads_inStep (mid := HiddenDifferFrom s.crcEn) ?_ ?_ 0 (discreteRegs s.params s.crcEn) h).andThen ?_
    · rintro k reg s u ⟨hc, l, tx, rx, st, k', hl, rfl⟩
      exact transaction_hidden _ _ _ _ _ ⟨hc, l, tx, rx, st, k, hl, rfl⟩
    · rintro k rx t u ⟨hc, l, tx, rx', st, k', hl, rfl⟩
      exact ⟨hc, _, tx, rx', st, k', hl.put _, rfl⟩
    · intro rx t u htu
      rw [Nat.zero_add, discreteRegs_length] at htu
      exact postProcess_hidden htu
  | angleBurst =>
    refine (transaction_hidden _ _ _ _ _ h).andThen ?_
    rintro rx t u ⟨-, l, tx, rx', st, k, -, rfl⟩
    exact postProcess_hidden (c := t.crcEn) ⟨rfl, l.ofBurst t.crcEn rx, tx, rx', st, k, ofBurst_agreeBelow _ _ _ _, rfl⟩
  | autoZero => exact (transaction_hidden _ _ _ _ _ h).andThen fun rx t u => ackCheck_hidden rx
  | progEeprom => exact (transaction_hidden _ _ _ _ _ h).andThen fun rx t u => ackCheck_hidden rx

/-- Settles O44. -/
theorem hiddenBuffersDoNotLeak : Obligations.HiddenBuffersDoNotLeak := by
  intro i s l tx rx st k
  obtain ⟨t, u, ht, hu, l', tx', rx', st', k', rfl⟩ := exec_hidden i (s := s) ⟨rfl, l, tx, rx, st, k, by
    simp [Layout.AgreeBelow], rfl⟩
  exact ⟨t, _, ht, hu, rfl⟩

/-! ### The flags and the last result code (10_state.md R42, 60_exceptions.md R186) -/

/-- `s` with other values in KIND, XFER_CODE, CRC_OK and WARN. -/
def State.withFlags (s : State) (k : BitVec 3) (c : Word) (ok : Bool) (w : Warn) : State :=
  { s with kind := k, xferCode := c, crcOk := ok, warn := w }

/-- `u` is `s` but for KIND, XFER_CODE, CRC_OK and WARN. -/
def FlagsDiffer (s u : State) : Prop := ∃ k c ok w, u = s.withFlags k c ok w

/-- The same of two outcomes: once the operation has ended, its result code is the same. -/
def FlagsDifferEnded (s u : State) : Prop :=
  FlagsDiffer s u ∧ (s.busy = false → u.kind = s.kind ∧ u.xferCode = s.xferCode)

theorem complete_flags {s u : State} (h : FlagsDiffer s u) : FlagsDifferEnded (complete s) (complete u) := by
  obtain ⟨k, c, ok, w, rfl⟩ := h
  exact ⟨⟨0, 0, ok, w, rfl⟩, fun _ => ⟨rfl, rfl⟩⟩

theorem raise_flags (e : Kind) (st : Word) {s u : State} (h : FlagsDiffer s u) :
    FlagsDifferEnded (raise e st s) (raise e st u) := by
  obtain ⟨k, c, ok, w, rfl⟩ := h
  exact ⟨⟨_, _, ok, w, rfl⟩, fun _ => ⟨rfl, rfl⟩⟩

theorem transaction_flags (op : BusOp) (cmd : Nibble) (reg : Byte) (d : DataArg) (len : Nat) {s u : State}
    (h : FlagsDiffer s u) :
    (transaction op cmd reg d len s).InStep FlagsDiffer FlagsDifferEnded (transaction op cmd reg d len u) := by
  obtain ⟨k, c, ok, w, rfl⟩ := h
  cases ha : s.answers with
  | nil =>
    rw [transaction_unanswered op cmd reg d len s ha, transaction_unanswered op cmd reg d len (s.withFlags k c ok w) ha]
    exact .stopped ⟨⟨k, c, ok, w, rfl⟩, nofun⟩
  | cons a rest =>
    by_cases hs : s.params.portStatus a.status = 0
    · rw [transaction_received op cmd reg d len s a rest ha hs,
        transaction_received op cmd reg d len (s.withFlags k c ok w) a rest ha hs]
      exact .received ⟨k, c, ok, w, rfl⟩
    · rw [transaction_failed op cmd reg d len s a rest ha hs,
        transaction_failed op cmd reg d len (s.withFlags k c ok w) a rest ha hs]
      exact .stopped ⟨⟨6, _, ok, w, rfl⟩, fun _ => ⟨rfl, rfl⟩⟩

theorem ackCheck_flags (rx : List Byte) {s u : State} (h : FlagsDiffer s u) :
    FlagsDifferEnded (ackCheck rx s) (ackCheck rx u) := by
  unfold ackCheck
  split
  · exact complete_flags h
  · exact raise_flags .error 0 h

theorem postProcess_flags {s u : State} (h : FlagsDiffer s u) : FlagsDifferEnded (postProcess s) (postProcess u) := by
  obtain ⟨k, c, ok, w, rfl⟩ := h
  cases hc : s.crcEn with
  | false =>
    rw [postProcess_without_crc s hc, postProcess_without_crc (s.withFlags k c ok w) hc]
    exact complete_flags ⟨k, c, ok, _, rfl⟩
  | true =>
    cases hm : crcCheck s.layout with
    | true =>
      rw [postProcess_match s hc hm, postProcess_match (s.withFlags k c ok w) hc hm]
      exact complete_flags ⟨k, c, true, _, rfl⟩
    | false =>
      rw [postProcess_mismatch s hc hm, postProcess_mismatch (s.withFlags k c ok w) hc hm]
      exact raise_flags .crcCheckFailed 0 ⟨k, c, false, w, rfl⟩

theorem exec_flags (i : Instr) {s u : State} (h : FlagsDiffer s u) :
    NextInStep FlagsDifferEnded (exec i s) (exec i u) := by
  have hu := h
  obtain ⟨k, c, ok, w, rfl⟩ := hu
  cases i with
  | crcInit => exact ⟨_, _, rfl, rfl, complete_flags ⟨k, c, ok, w, rfl⟩⟩
  | crcStep d => exact ⟨_, _, rfl, rfl, complete_flags ⟨k, c, ok, w, rfl⟩⟩
  | readReg r =>
    refine (transaction_flags _ _ _ _ _ h).andThen ?_
    rintro rx t u ⟨k, c, ok, w, rfl⟩
    exact complete_flags ⟨k, c, ok, w, rfl⟩
  | writeReg r d => exact (transaction_flags _ _ _ _ _ h).andThen fun _ _ _ => complete_flags
  | angleDiscrete =>
    refine (subReads_inStep (mid := fun _ => FlagsDiffer) ?_ ?_ 0 (discreteRegs s.params s.crcEn) h).andThen ?_
    · rintro k reg s u ⟨k', c, ok, w, rfl⟩
      exact transaction_flags _ _ _ _ _ ⟨k', c, ok, w, rfl⟩
    · rintro k rx t u ⟨k', c, ok, w, rfl⟩
      exact ⟨k', c, ok, w, rfl⟩
    · exact fun _ _ _ => postProcess_flags
  | angleBurst =>
    refine (transaction_flags _ _ _ _ _ h).andThen ?_
    rintro rx t u ⟨k, c, ok, w, rfl⟩
    exact postProcess_flags ⟨k, c, ok, w, rfl⟩
  | autoZero => exact (transaction_flags _ _ _ _ _ h).andThen fun rx _ _ => ackCheck_flags rx
  | progEeprom => exact (transaction_flags _ _ _ _ _ h).andThen fun rx _ _ => ackCheck_flags rx

/-- Settles O45. -/
theorem flagsAreNoInput : Obligations.FlagsAreNoInput := by
  intro i s k c ok w
  obtain ⟨t, u, ht, hu, ⟨k', c', ok', w', rfl⟩, hend⟩ := exec_flags i (s := s) ⟨k, c, ok, w, rfl⟩
  exact ⟨t, _, ht, hu, rfl, hend⟩

end Sys2Proof.Machine

/-! SUPPORT. Which operation writes which register (10_state.md R43). -/

namespace Sys2Proof.Machine

/-! ### What an operation leaves alone -/

/-- What its last lines `k` leave alone, an operation leaves as its bracket does. -/
theorem andThen_leaves {α : Type} (f : State → α) {b : Bracket} {k : List Byte → State → State} {t : State}
    (h : b.andThen k = .next t) (hk : ∀ rx u, f (k rx u) = f u) : f t = f b.state := by
  cases b with
  | received rx u => cases h; exact hk rx u
  | stopped u => cases h; rfl

theorem ackCheck_leaves {α : Type} (f : State → α) (hcomplete : ∀ u, f (complete u) = f u)
    (hraise : ∀ k st u, f (raise k st u) = f u) (rx : List Byte) (s : State) : f (ackCheck rx s) = f s := by
  unfold ackCheck
  split
  · exact hcomplete s
  · exact hraise .error 0 s

/-- What no operation writes, FRAME.TRAIL among it (41_transaction.md R127). -/
structure Surroundings where
  params : Params
  crcEn : Bool
  cfgCrcEn : Bool
  inputs : List Input
  rq : Word
  rdata : Word
  draws : Nat
  trail : Byte

/-- What a state holds of it. -/
def State.surroundings (s : State) : Surroundings where
  params := s.params
  crcEn := s.crcEn
  cfgCrcEn := s.cfgCrcEn
  inputs := s.inputs
  rq := s.rq
  rdata := s.rdata
  draws := s.draws
  trail := s.frame.trail

theorem postProcess_surroundings (s : State) : (postProcess s).surroundings = s.surroundings := by
  unfold postProcess
  split
  · split <;> rfl
  · rfl

theorem postProcess_frame (s : State) : (postProcess s).frame = s.frame := by
  unfold postProcess
  split
  · split <;> rfl
  · rfl

theorem transaction_surroundings (op : BusOp) (cmd : Nibble) (reg : Byte) (d : DataArg) (n : Nat) (s : State) :
    (transaction op cmd reg d n s).state.surroundings = s.surroundings :=
  (congrArg State.surroundings (transaction_leaves op cmd reg d n s).1 :)

/-- What each sub-read and the bytes it stores leave alone, the loop leaves alone. -/
theorem subReads_leaves {α : Type} (f : State → α)
    (hread : ∀ k reg s, f (transaction .angleDiscrete s.params.cmdRead reg .keep 3 { s with idx := k }).state = f s)
    (hstore : ∀ k rx s, f (storeLayout k rx s) = f s) (k : Nat) (regs : List Byte) (s : State) :
    f (subReads k regs s).state = f s := by
  induction regs generalizing k s with
  | nil => rfl
  | cons reg regs ih =>
    have hfirst := hread k reg s
    rw [subReads_cons]
    cases h : transaction .angleDiscrete s.params.cmdRead reg .keep 3 { s with idx := k } with
    | stopped t => rw [h] at hfirst; exact hfirst
    | received rx t =>
      rw [h] at hfirst
      exact (ih (k + 1) (storeLayout k rx t)).trans ((hstore k rx t).trans hfirst)

theorem exec_surroundings {i : Instr} {s t : State} (h : exec i s = .next t) : t.surroundings = s.surroundings := by
  cases i with
  | crcInit => cases h; rfl
  | crcStep d => cases h; rfl
  | readReg r => exact (andThen_leaves _ h fun _ _ => rfl).trans (transaction_surroundings ..)
  | writeReg r d => exact (andThen_leaves _ h fun _ _ => rfl).trans (transaction_surroundings ..)
  | angleDiscrete =>
    exact (andThen_leaves _ h fun _ u => postProcess_surroundings u).trans
      (subReads_leaves _ (fun _ _ _ => transaction_surroundings ..) (fun _ _ _ => rfl) ..)
  | angleBurst =>
    exact (andThen_leaves _ h fun rx u => postProcess_surroundings (storeBurst rx u)).trans
      (transaction_surroundings ..)
  | autoZero =>
    exact (andThen_leaves _ h (ackCheck_leaves _ (fun _ => rfl) fun _ _ _ => rfl)).trans (transaction_surroundings ..)
  | progEeprom =>
    exact (andThen_leaves _ h (ackCheck_leaves _ (fun _ => rfl) fun _ _ _ => rfl)).trans (transaction_surroundings ..)

/-- R77: only WRITE_REG and the acknowledged commands give `Compose` a data byte. -/
theorem exec_frame_data {i : Instr} {s t : State} (h : exec i s = .next t)
    (hi : i.mnemonic ∉ [.writeReg, .autoZero, .progEeprom]) : t.frame.data = s.frame.data := by
  have hkeep (op : BusOp) (cmd : Nibble) (reg : Byte) (n : Nat) (u : State) :
      (transaction op cmd reg .keep n u).state.frame.data = u.frame.data :=
    (congrArg Frame.data (transaction_leaves op cmd reg .keep n u).2 :)
  cases i with
  | crcInit => cases h; rfl
  | crcStep d => cases h; rfl
  | readReg r => exact (andThen_leaves (·.frame.data) h fun _ _ => rfl).trans (hkeep ..)
  | writeReg r d => exact absurd (by simp [Instr.mnemonic]) hi
  | angleDiscrete =>
    exact (andThen_leaves (·.frame.data) h fun _ u => congrArg Frame.data (postProcess_frame u)).trans
      (subReads_leaves (·.frame.data) (fun _ _ _ => hkeep ..) (fun _ _ _ => rfl) ..)
  | angleBurst =>
    exact (andThen_leaves (·.frame.data) h fun rx u => congrArg Frame.data (postProcess_frame (storeBurst rx u))).trans
      (hkeep ..)
  | autoZero => exact absurd (by decide) hi
  | progEeprom => exact absurd (by decide) hi

/-- The angle operations. -/
def AngleOp (i : Instr) : Prop := i.mnemonic = .angleDiscrete ∨ i.mnemonic = .angleBurst

theorem exec_layout {i : Instr} {s t : State} (h : exec i s = .next t) (hi : ¬ AngleOp i) : t.layout = s.layout := by
  have hbracket (op : BusOp) (cmd : Nibble) (reg : Byte) (d : DataArg) (n : Nat) (u : State) :
      (transaction op cmd reg d n u).state.layout = u.layout :=
    (congrArg State.layout (transaction_leaves op cmd reg d n u).1 :)
  cases i with
  | crcInit => cases h; rfl
  | crcStep d => cases h; rfl
  | readReg r => exact (andThen_leaves State.layout h fun _ _ => rfl).trans (hbracket ..)
  | writeReg r d => exact (andThen_leaves State.layout h fun _ _ => rfl).trans (hbracket ..)
  | angleDiscrete => exact absurd (.inl rfl) hi
  | angleBurst => exact absurd (.inr rfl) hi
  | autoZero =>
    exact (andThen_leaves State.layout h (ackCheck_leaves _ (fun _ => rfl) fun _ _ _ => rfl)).trans (hbracket ..)
  | progEeprom =>
    exact (andThen_leaves State.layout h (ackCheck_leaves _ (fun _ => rfl) fun _ _ _ => rfl)).trans (hbracket ..)

/-! ### Which results an operation writes (10_state.md R43) -/

/-- What operation `i` has done to the results of `s` when the block is in `t`. -/
inductive Wrote (i : Instr) (s t : State) : Prop
  /-- It is left waiting (R126). -/
  | nothing (hb : t.busy = true) (h : t.results = s.results)
  /-- It reported its result code, and no more. -/
  | code (hb : t.busy = false) (hi : i.mnemonic ≠ .crcInit ∧ i.mnemonic ≠ .crcStep)
      (h : t.results = { s.results with kind := t.kind, xferCode := t.xferCode })
  /-- CRC_INIT and CRC_STEP. -/
  | crcAcc (hb : t.busy = false) (hi : i.mnemonic = .crcInit ∨ i.mnemonic = .crcStep) (hk : t.kind = 0)
      (h : t.results = { s.results with kind := t.kind, xferCode := t.xferCode, crcAcc := t.crcAcc })
  /-- READ_REG succeeded. -/
  | data (hb : t.busy = false) (hi : i.mnemonic = .readReg) (hk : t.kind = 0)
      (h : t.results = { s.results with kind := t.kind, xferCode := t.xferCode, resultData := t.resultData })
  /-- An angle operation succeeded, with or without a CRC byte to check. -/
  | angle (hb : t.busy = false) (hi : AngleOp i) (hk : t.kind = 0) (hc : s.crcEn = false → t.crcOk = s.crcOk)
      (h : t.results = { s.results with
        kind := t.kind, xferCode := t.xferCode, crcOk := t.crcOk, warn := t.warn, rawAngle := t.rawAngle })
  /-- An angle operation found a CRC mismatch. -/
  | mismatch (hb : t.busy = false) (hi : AngleOp i) (hk : t.kind = 5) (hc : s.crcEn = true)
      (h : t.results = { s.results with kind := t.kind, xferCode := t.xferCode, crcOk := t.crcOk })

/-- A bracket that starts from the results `r` writes none of them but the result code, and that only where the
operation has ended. -/
def Bracket.KeepsResults (r : Results) : Bracket → Prop
  | .received _ t => t.results = r
  | .stopped t =>
    (t.busy = true ∧ t.results = r) ∨
    (t.busy = false ∧ t.results = { r with kind := t.kind, xferCode := t.xferCode })

theorem transaction_keepsResults (op : BusOp) (cmd : Nibble) (reg : Byte) (d : DataArg) (n : Nat) (s : State) :
    (transaction op cmd reg d n s).KeepsResults s.results := by
  cases ha : s.answers with
  | nil => rw [transaction_unanswered op cmd reg d n s ha]; exact .inl ⟨rfl, rfl⟩
  | cons a rest =>
    by_cases hs : s.params.portStatus a.status = 0
    · rw [transaction_received op cmd reg d n s a rest ha hs]; exact (rfl : s.results = s.results)
    · rw [transaction_failed op cmd reg d n s a rest ha hs]; exact .inr ⟨rfl, rfl⟩

theorem subReads_keepsResults (k : Nat) (regs : List Byte) (s : State) :
    (subReads k regs s).KeepsResults s.results := by
  induction regs generalizing k s with
  | nil => exact (rfl : s.results = s.results)
  | cons reg regs ih =>
    have hfirst := transaction_keepsResults .angleDiscrete s.params.cmdRead reg .keep 3 { s with idx := k }
    rw [subReads_cons]
    cases h : transaction .angleDiscrete s.params.cmdRead reg .keep 3 { s with idx := k } with
    | stopped t => rw [h] at hfirst; exact hfirst
    | received rx t =>
      rw [h] at hfirst
      have hres : (storeLayout k rx t).results = s.results := hfirst
      exact hres ▸ ih (k + 1) (storeLayout k rx t)

/-- An operation on the bus has done what its last lines `k` do, or its bracket has left it waiting or failed. -/
theorem Wrote.of_bracket {i : Instr} {s t : State} {b : Bracket} {k : List Byte → State → State}
    (h : b.andThen k = .next t) (hb : b.KeepsResults s.results) (hi : i.mnemonic ≠ .crcInit ∧ i.mnemonic ≠ .crcStep)
    (hk : ∀ rx u, u.results = s.results → Wrote i s (k rx u)) : Wrote i s t := by
  cases b with
  | received rx u => cases h; exact hk rx u hb
  | stopped u =>
    cases h
    obtain ⟨hbusy, hres⟩ | ⟨hbusy, hres⟩ := hb
    · exact .nothing hbusy hres
    · exact .code hbusy hi hres

theorem wrote_complete {i : Instr} {s u : State} (hi : i.mnemonic ≠ .crcInit ∧ i.mnemonic ≠ .crcStep)
    (h : u.results = s.results) : Wrote i s (complete u) :=
  .code rfl hi (by rw [← h]; rfl)

theorem wrote_ackCheck {i : Instr} {s u : State} (rx : List Byte)
    (hi : i.mnemonic ≠ .crcInit ∧ i.mnemonic ≠ .crcStep) (h : u.results = s.results) : Wrote i s (ackCheck rx u) := by
  unfold ackCheck
  split
  · exact wrote_complete hi h
  · exact .code rfl hi (by rw [← h]; rfl)

theorem wrote_postProcess {i : Instr} {s u : State} (hi : AngleOp i) (h : u.results = s.results) :
    Wrote i s (postProcess u) := by
  have hen : u.crcEn = s.crcEn := congrArg Results.crcEn h
  cases hc : u.crcEn with
  | false =>
    rw [postProcess_without_crc u hc]
    exact .angle rfl hi rfl (fun _ => congrArg Results.crcOk h) (by rw [← h]; rfl)
  | true =>
    cases hm : crcCheck u.layout with
    | true =>
      rw [postProcess_match u hc hm]
      exact .angle rfl hi rfl (fun hoff => by simp [← hen, hc] at hoff) (by rw [← h]; rfl)
    | false =>
      rw [postProcess_mismatch u hc hm]
      exact .mismatch rfl hi rfl (hen.symm.trans hc) (by rw [← h]; rfl)

theorem exec_wrote {i : Instr} {s t : State} (h : exec i s = .next t) : Wrote i s t := by
  cases i with
  | crcInit => cases h; exact .crcAcc rfl (.inl rfl) rfl rfl
  | crcStep d => cases h; exact .crcAcc rfl (.inr rfl) rfl rfl
  | readReg r =>
    exact .of_bracket h (transaction_keepsResults ..) (by simp [Instr.mnemonic]) fun rx u hu =>
      .data rfl rfl rfl (by rw [← hu]; rfl)
  | writeReg r d =>
    exact .of_bracket h (transaction_keepsResults ..) (by simp [Instr.mnemonic]) fun _ _ =>
      wrote_complete (by simp [Instr.mnemonic])
  | angleDiscrete =>
    exact .of_bracket h (subReads_keepsResults ..) (by simp [Instr.mnemonic]) fun _ _ => wrote_postProcess (.inl rfl)
  | angleBurst =>
    exact .of_bracket h (transaction_keepsResults ..) (by simp [Instr.mnemonic]) fun rx u =>
      wrote_postProcess (u := storeBurst rx u) (.inr rfl)
  | autoZero =>
    exact .of_bracket h (transaction_keepsResults ..) (by simp [Instr.mnemonic]) fun rx _ =>
      wrote_ackCheck rx (by simp [Instr.mnemonic])
  | progEeprom =>
    exact .of_bracket h (transaction_keepsResults ..) (by simp [Instr.mnemonic]) fun rx _ =>
      wrote_ackCheck rx (by simp [Instr.mnemonic])

/-- The clauses of R43 about the results. -/
theorem Wrote.clauses {i : Instr} {s t : State} (w : Wrote i s t) :
    (i.mnemonic ≠ .readReg → t.resultData = s.resultData) ∧
    (¬ AngleOp i → t.rawAngle = s.rawAngle ∧ t.warn = s.warn ∧ t.crcOk = s.crcOk) ∧
    (s.crcEn = false → t.crcOk = s.crcOk) ∧
    (i.mnemonic ≠ .crcInit → i.mnemonic ≠ .crcStep → t.crcAcc = s.crcAcc) ∧
    (t.kind ∉ [0, 5] → t.busy = false → t.rawAngle = s.rawAngle ∧ t.warn = s.warn ∧ t.crcOk = s.crcOk ∧
      t.resultData = s.resultData) ∧
    (t.kind = 5 → t.busy = false → t.rawAngle = s.rawAngle ∧ t.warn = s.warn) ∧
    (t.busy = true → t.kind = s.kind ∧ t.xferCode = s.xferCode ∧ t.resultData = s.resultData ∧
      t.rawAngle = s.rawAngle ∧ t.warn = s.warn ∧ t.crcOk = s.crcOk ∧ t.crcAcc = s.crcAcc) := by
  cases w with
  | crcAcc hb hi hk h => obtain hi | hi := hi <;> simp_all [State.results]
  | nothing | code | data | angle | mismatch => simp_all [State.results]

/-- The CRC operations stay off the bus (40_crc.md R104, R105). -/
theorem exec_crc_bus {i : Instr} {s t : State} (h : exec i s = .next t)
    (hi : i.mnemonic = .crcInit ∨ i.mnemonic = .crcStep) :
    t.frame = s.frame ∧ t.cs = s.cs ∧ t.bus = s.bus ∧ t.answers = s.answers := by
  cases i with
  | crcInit | crcStep d => cases h; exact ⟨rfl, rfl, rfl, rfl⟩
  | readReg | writeReg | angleDiscrete | angleBurst | autoZero | progEeprom => simp [Instr.mnemonic] at hi

/-- Settles O42: each clause from what the operation did to the results, to FRAME.DATA, to L, or to none of them. -/
theorem operationsWriteOnlyTheirRegisters : Obligations.OperationsWriteOnlyTheirRegisters := by
  intro i s t h
  obtain ⟨hdata, hangle, hoff, hacc, hfailed, hmismatch, hwaits⟩ := (exec_wrote h).clauses
  have hsur := exec_surroundings h
  refine ⟨hdata, fun hd hb => ?_, hoff, hacc, exec_crc_bus h, exec_frame_data h, congrArg Surroundings.trail hsur,
    hfailed, hmismatch, hwaits, congrArg Surroundings.params hsur, congrArg Surroundings.crcEn hsur,
    congrArg Surroundings.cfgCrcEn hsur, congrArg Surroundings.inputs hsur, congrArg Surroundings.rq hsur,
    congrArg Surroundings.rdata hsur, congrArg Surroundings.draws hsur⟩
  have hi : ¬ AngleOp i := not_or.mpr ⟨hd, hb⟩
  obtain ⟨hraw, hwarn, hok⟩ := hangle hi
  exact ⟨hraw, hwarn, hok, exec_layout h hi⟩

end Sys2Proof.Machine

/-! SUPPORT. Words by their fields: the request word (30_encoding.md R70) and FRAME (R75). -/

namespace Sys2Proof

/-! ### A field placed in a word -/

/-- A field placed at bit `k` is read back there. -/
theorem extractLsb'_placed {n k : Nat} (x : BitVec n) (h : k + n ≤ 32) :
    BitVec.extractLsb' k n (x.setWidth 32 <<< k) = x := by
  apply BitVec.eq_of_getLsbD_eq
  intro i hi
  simp [hi, Nat.lt_of_lt_of_le (Nat.add_lt_add_left hi k) h]

/-- Nothing of it is read where it does not stand. -/
theorem extractLsb'_placed_elsewhere {n k j m : Nat} (x : BitVec n) (h : j + m ≤ k ∨ k + n ≤ j) :
    BitVec.extractLsb' j m (x.setWidth 32 <<< k) = 0#m := by
  apply BitVec.eq_of_getLsbD_eq
  intro i hi
  obtain h | h := h
  · have hlow : j + i < k := by omega
    simp [hlow]
  · have hhigh : n ≤ j + i - k := by omega
    simp [BitVec.getLsbD_of_ge x _ hhigh]

theorem extractLsb'_placed_low {n : Nat} (x : BitVec n) (h : n ≤ 32) : BitVec.extractLsb' 0 n (x.setWidth 32) = x := by
  simpa using extractLsb'_placed (k := 0) x (by omega)

theorem extractLsb'_placed_below {n j m : Nat} (x : BitVec n) (h : n ≤ j) :
    BitVec.extractLsb' j m (x.setWidth 32) = 0#m := by
  simpa using extractLsb'_placed_elsewhere (k := 0) (m := m) x (.inr (by omega))

/-! ### The fields of a request word (R70) -/

theorem requestWord_fields (op : Nibble) (r d : Byte) :
    opField (requestWord op r d) = op ∧ mbz0Field (requestWord op r d) = 0 ∧ regField (requestWord op r d) = r ∧
    dataField (requestWord op r d) = d ∧ mbz1Field (requestWord op r d) = 0 := by
  simp [requestWord, opField, mbz0Field, regField, dataField, mbz1Field, BitVec.extractLsb'_or, extractLsb'_placed,
    extractLsb'_placed_elsewhere, extractLsb'_placed_low, extractLsb'_placed_below]

/-- The five fields make up the word. -/
theorem word_ext {w v : Word} (hop : opField w = opField v) (hm0 : mbz0Field w = mbz0Field v)
    (hr : regField w = regField v) (hd : dataField w = dataField v) (hm1 : mbz1Field w = mbz1Field v) : w = v := by
  have hsplit (x : Word) : x = mbz1Field x ++ (dataField x ++ (regField x ++ (mbz0Field x ++ opField x))) := by
    simp only [opField, mbz0Field, regField, dataField, mbz1Field]
    rw [BitVec.extractLsb'_append_extractLsb'_eq_extractLsb' (by rfl),
      BitVec.extractLsb'_append_extractLsb'_eq_extractLsb' (by rfl),
      BitVec.extractLsb'_append_extractLsb'_eq_extractLsb' (by rfl),
      BitVec.extractLsb'_append_extractLsb'_eq_extractLsb' (by rfl)]
    exact BitVec.extractLsb'_eq_self.symm
  rw [hsplit w, hsplit v, hop, hm0, hr, hd, hm1]

/-- A word whose must-be-zero fields are 0 is put together from its other fields. -/
theorem requestWord_of_fields {w : Word} (hm0 : mbz0Field w = 0) (hm1 : mbz1Field w = 0) :
    requestWord (opField w) (regField w) (dataField w) = w := by
  obtain ⟨hop, hz0, hr, hd, hz1⟩ := requestWord_fields (opField w) (regField w) (dataField w)
  exact word_ext hop (hz0.trans hm0.symm) hr hd (hz1.trans hm1.symm)

/-! ### Decode and encode -/

theorem decode_requestWord (op : Nibble) (r d : Byte) : decode (requestWord op r d) = decodeOp op r d := by
  obtain ⟨hop, hm0, hr, hd, hm1⟩ := requestWord_fields op r d
  simp [decode, hop, hm0, hr, hd, hm1]

/-- Settles O2: the word of an operation is put together from fields that decode reads back. -/
theorem decodeOfEncode : Obligations.DecodeOfEncode := by
  intro i
  cases i with
  | crcInit | angleDiscrete | angleBurst | autoZero | progEeprom => exact decode_requestWord _ 0 0
  | crcStep d => exact decode_requestWord 0x2 0 d
  | readReg r => exact decode_requestWord 0x3 r 0
  | writeReg r d => exact decode_requestWord 0x4 r d

theorem noOperands_eq_instr {i j : Instr} {r d : Byte} :
    noOperands i r d = .instr j ↔ r = 0 ∧ d = 0 ∧ i = j := by
  by_cases hr : r = 0#8 <;> by_cases hd : d = 0#8 <;> simp [noOperands, hr, hd]

theorem dataOperand_eq_instr {j : Instr} {r d : Byte} :
    dataOperand r d = .instr j ↔ r = 0 ∧ .crcStep d = j := by
  by_cases hr : r = 0#8 <;> simp [dataOperand, hr]

theorem regOperand_eq_instr {j : Instr} {r d : Byte} :
    regOperand r d = .instr j ↔ d = 0 ∧ .readReg r = j := by
  by_cases hd : d = 0#8 <;> simp [regOperand, hd]

/-- An operation is decoded from no fields but its own. -/
theorem encode_of_decodeOp {op : Nibble} {r d : Byte} {i : Instr} (h : decodeOp op r d = .instr i) :
    encode i = requestWord op r d := by
  unfold decodeOp at h
  split at h
  case h_1 | h_5 | h_6 | h_7 | h_8 =>
    obtain ⟨rfl, rfl, rfl⟩ := noOperands_eq_instr.mp h
    rfl
  case h_2 =>
    obtain ⟨rfl, rfl⟩ := dataOperand_eq_instr.mp h
    rfl
  case h_3 =>
    obtain ⟨rfl, rfl⟩ := regOperand_eq_instr.mp h
    rfl
  case h_4 => cases h; rfl
  case h_9 => cases h

theorem decode_eq_decodeOp {w : Word} (hm0 : mbz0Field w = 0) (hm1 : mbz1Field w = 0) :
    decode w = decodeOp (opField w) (regField w) (dataField w) := by
  simp [decode, hm0, hm1]

/-- Settles O3: the must-be-zero fields of such a word are 0, and its other fields are those of the operation's word. -/
theorem encodeOfDecode : Obligations.EncodeOfDecode := by
  intro w i h
  by_cases hm0 : mbz0Field w = 0#4
  · by_cases hm1 : mbz1Field w = 0#8
    · rw [decode_eq_decodeOp hm0 hm1] at h
      rw [encode_of_decodeOp h, requestWord_of_fields hm0 hm1]
    · simp [decode, hm0, hm1] at h
  · simp [decode, hm0] at h

/-- Settles O1, by evaluation of decode on the six words. -/
theorem specWordsDecode : Obligations.SpecWordsDecode := by
  unfold Obligations.SpecWordsDecode
  decide

end Sys2Proof

namespace Sys2Proof.Machine

theorem frameWord_fields (f : Frame) :
    f.word.extractLsb' 0 4 = f.rsv ∧ f.word.extractLsb' 4 4 = f.cmd ∧ f.word.extractLsb' 8 8 = f.reg ∧
    f.word.extractLsb' 16 8 = f.data ∧ f.word.extractLsb' 24 8 = f.trail := by
  simp [Frame.word, BitVec.extractLsb'_or, extractLsb'_placed, extractLsb'_placed_elsewhere, extractLsb'_placed_low,
    extractLsb'_placed_below]

/-- The low byte of FRAME is CMD above RSV. -/
theorem wire_cmd_rsv (f : Frame) : f.wire 0 = (f.cmd.setWidth 8 <<< 4) ||| f.rsv.setWidth 8 := by
  apply BitVec.eq_of_getLsbD_eq
  intro i hi
  interval_cases i <;> simp [Frame.wire, Frame.word]

/-- Settles O25: wire bytes 1 to 3 are whole fields, and byte 0 is two of them. -/
theorem framePackingAndWireBytes : Obligations.FramePackingAndWireBytes := by
  intro f
  obtain ⟨hrsv, hcmd, hreg, hdata, htrail⟩ := frameWord_fields f
  refine ⟨hrsv, hcmd, hreg, hdata, htrail, wire_cmd_rsv f, hreg, hdata, htrail, fun h => ?_⟩
  rw [wire_cmd_rsv, h]
  simp [commandByte]

end Sys2Proof.Machine

/-! SUPPORT. The opcode table's rows (30_encoding.md R74). -/

namespace Sys2Proof

/-- Each operation's word matches its own row and no other. -/
theorem encode_hits (i : Instr) : Laws.TableRow.Statement i := by
  cases i with
  | crcInit => exact Laws.TableRow.crcInit
  | crcStep d => exact Laws.TableRow.crcStep d
  | readReg r => exact Laws.TableRow.readReg r
  | writeReg r d => exact Laws.TableRow.writeReg r d
  | angleDiscrete => exact Laws.TableRow.angleDiscrete
  | angleBurst => exact Laws.TableRow.angleBurst
  | autoZero => exact Laws.TableRow.autoZero
  | progEeprom => exact Laws.TableRow.progEeprom

theorem encode_hits_of_mnemonic {w : Word} {r : Row} (hr : r ∈ rows) {i : Instr} (hi : decode w = .instr i)
    (hm : i.mnemonic = r.mnemonic) : r.hits w = true := by
  rw [← encodeOfDecode w i hi]
  exact (encode_hits i r hr).mpr hm.symm

/-- A row is matched field by field. -/
theorem fields_of_hits {r : Row} {w : Word} (h : r.hits w = true) :
    opField w &&& opField r.mask = opField r.matchWord ∧
    mbz0Field w &&& mbz0Field r.mask = mbz0Field r.matchWord ∧
    regField w &&& regField r.mask = regField r.matchWord ∧
    dataField w &&& dataField r.mask = dataField r.matchWord ∧
    mbz1Field w &&& mbz1Field r.mask = mbz1Field r.matchWord := by
  have hw : w &&& r.mask = r.matchWord := beq_iff_eq.mp h
  simp only [← hw, opField, mbz0Field, regField, dataField, mbz1Field, BitVec.extractLsb'_and, and_self]

/-- The operation of a mnemonic whose operands are read from the fields. -/
def Mnemonic.fromFields (r d : Byte) : Mnemonic → Instr
  | .crcInit => .crcInit
  | .crcStep => .crcStep d
  | .readReg => .readReg r
  | .writeReg => .writeReg r d
  | .angleDiscrete => .angleDiscrete
  | .angleBurst => .angleBurst
  | .autoZero => .autoZero
  | .progEeprom => .progEeprom

theorem mnemonic_fromFields (r d : Byte) (m : Mnemonic) : (m.fromFields r d).mnemonic = m := by
  cases m <;> rfl

/-- Every row fixes OP and the must-be-zero fields. -/
theorem rows_masks : ∀ r ∈ rows, opField r.mask = 0xF#4 ∧ mbz0Field r.mask = 0xF#4 ∧ mbz1Field r.mask = 0xFF#8 ∧
    mbz0Field r.matchWord = 0 ∧ mbz1Field r.matchWord = 0 := by decide

/-- A row lets through the operand bytes its operation has, and wants 0 for the others. -/
theorem decodeOp_of_row {r : Row} (hr : r ∈ rows) {a b : Byte} (hreg : a &&& regField r.mask = regField r.matchWord)
    (hdata : b &&& dataField r.mask = dataField r.matchWord) :
    decodeOp (opField r.matchWord) a b = .instr (r.mnemonic.fromFields a b) := by
  have hall (x : Byte) : x &&& 0xFF#8 = x := BitVec.and_allOnes
  fin_cases hr <;>
    simp_all [opField, regField, dataField, decodeOp, noOperands, dataOperand, regOperand, Mnemonic.fromFields]

theorem decode_of_hits {r : Row} (hr : r ∈ rows) {w : Word} (h : r.hits w = true) :
    decode w = .instr (r.mnemonic.fromFields (regField w) (dataField w)) := by
  obtain ⟨hop, hm0, hreg, hdata, hm1⟩ := fields_of_hits h
  obtain ⟨hmaskOp, hmask0, hmask1, hmatch0, hmatch1⟩ := rows_masks r hr
  have hnibble (x : Nibble) : x &&& 0xF#4 = x := BitVec.and_allOnes
  have hbyte (x : Byte) : x &&& 0xFF#8 = x := BitVec.and_allOnes
  rw [hmaskOp, hnibble] at hop
  rw [hmask0, hnibble, hmatch0] at hm0
  rw [hmask1, hbyte, hmatch1] at hm1
  rw [decode_eq_decodeOp hm0 hm1, hop, decodeOp_of_row hr hreg hdata]

/-- Settles O4. -/
theorem rowsDecideDecoding : Obligations.RowsDecideDecoding := by
  have hiff (w : Word) (r : Row) (hr : r ∈ rows) :
      r.hits w = true ↔ ∃ i, decode w = .instr i ∧ i.mnemonic = r.mnemonic :=
    ⟨fun h => ⟨_, decode_of_hits hr h, mnemonic_fromFields ..⟩, fun ⟨_, hi, hm⟩ => encode_hits_of_mnemonic hr hi hm⟩
  have hname : ∀ r ∈ rows, ∀ r' ∈ rows, r.mnemonic = r'.mnemonic → r = r' := by decide
  have hrow (m : Mnemonic) : ∃ r ∈ rows, r.mnemonic = m := by cases m <;> decide
  refine ⟨hiff, fun w r r' hr hr' h h' => ?_, fun w hno => ?_⟩
  · obtain ⟨i, hi, hm⟩ := (hiff w r hr).mp h
    obtain ⟨i', hi', hm'⟩ := (hiff w r' hr').mp h'
    obtain rfl : i = i' := Decoded.instr.inj (hi.symm.trans hi')
    exact hname r hr r' hr' (hm.symm.trans hm')
  · cases hd : decode w with
    | invalid why => exact ⟨why, rfl⟩
    | instr i =>
      obtain ⟨r, hr, hm⟩ := hrow i.mnemonic
      exact absurd (encode_hits_of_mnemonic hr hd hm.symm) (by simp [hno r hr])

end Sys2Proof

/-! SUPPORT. Invalid requests (30_encoding.md R72). -/

namespace Sys2Proof

theorem noOperands_invalid {i : Instr} {r d : Byte} :
    (∃ why, noOperands i r d = .invalid why) ↔ r ≠ 0 ∨ d ≠ 0 := by
  by_cases hr : r = 0#8 <;> by_cases hd : d = 0#8 <;> simp [noOperands, hr, hd]

theorem dataOperand_invalid {r d : Byte} : (∃ why, dataOperand r d = .invalid why) ↔ r ≠ 0 := by
  by_cases hr : r = 0#8 <;> simp [dataOperand, hr]

theorem regOperand_invalid {r d : Byte} : (∃ why, regOperand r d = .invalid why) ↔ d ≠ 0 := by
  by_cases hd : d = 0#8 <;> simp [regOperand, hd]

/-- The OP codes without an operation, and the operands an operation does not have. -/
theorem decodeOp_invalid {op : Nibble} {r d : Byte} : (∃ why, decodeOp op r d = .invalid why) ↔
    op = 0x0#4 ∨ 0x9#4 ≤ op ∨
    (r ≠ 0#8 ∧ op ∈ [0x1#4, 0x2#4, 0x5#4, 0x6#4, 0x7#4, 0x8#4]) ∨
    (d ≠ 0#8 ∧ op ∈ [0x1#4, 0x3#4, 0x5#4, 0x6#4, 0x7#4, 0x8#4]) := by
  unfold decodeOp
  split
  case h_1 | h_5 | h_6 | h_7 | h_8 => simp [noOperands_invalid]
  case h_2 => simp [dataOperand_invalid]
  case h_3 => simp [regOperand_invalid]
  case h_4 => simp
  case h_9 =>
    have hop : op = 0x0#4 ∨ 0x9#4 ≤ op := by
      simp only [imp_false] at *
      bv_omega
    exact iff_of_true ⟨_, rfl⟩ (hop.imp_right .inl)

theorem decode_invalid {w : Word} : (∃ why, decode w = .invalid why) ↔
    mbz0Field w ≠ 0#4 ∨ mbz1Field w ≠ 0#8 ∨ ∃ why, decodeOp (opField w) (regField w) (dataField w) = .invalid why := by
  by_cases hm0 : mbz0Field w = 0#4 <;> by_cases hm1 : mbz1Field w = 0#8 <;> simp [decode, hm0, hm1]

end Sys2Proof

namespace Sys2Proof.Machine

/-- What an invalid request leaves, from IDLE. -/
theorem raise_invalidArgument_latch (w : Word) {s : State} (h : s.phase = .idle) :
    raise .invalidArgument 0 (latch w s) = { s with rq := w, kind := 4, xferCode := 0, held := [] } := by
  simp [raise, finish, latch, Kind.code, ← h]

/-- Settles O5: the words are those of R72's pseudocode, and both forms of the request only raise InvalidArgument. -/
theorem invalidRequestOnlyReports : Obligations.InvalidRequestOnlyReports := by
  refine ⟨fun w => ?_, fun s w rest why hin hidle hd => ?_, fun s w why hidle hd => ?_⟩
  · have h := (decode_invalid (w := w)).trans (or_congr_right (or_congr_right decodeOp_invalid))
    rw [h]
    simp only [opField, mbz0Field, regField, dataField, mbz1Field]
    grind
  · have hidle' : (s.awaiting rest).phase = .idle := hidle
    rw [step_request hin, requestLine_idle (busy_of_phase_idle hidle'), runRequest_invalid hd,
      raise_invalidArgument_latch w hidle']
    rfl
  · calc
      advance (latch w s) = decodeEvent (latch w s) := advance_decode (latch_phase w s)
      _ = raise .invalidArgument 0 (latch w s) := decodeEvent_invalid hd
      _ = _ := raise_invalidArgument_latch w hidle

end Sys2Proof.Machine

/-! SUPPORT. The assembler's checks (30_encoding.md R81). -/

namespace Sys2Proof

theorem wellFormed_op {p : Params} {m : Mnemonic} {os : List Operand} :
    (Line.op m os).wellFormed p = true ↔ os.length = m.arity ∧ ∀ o ∈ os, o.value p ≤ 255 := by
  simp [Line.wellFormed, Line.countOk, Line.rangeOk]

theorem request_op (p : Params) (m : Mnemonic) (os : List Operand) :
    (Line.op m os).request p = if (Line.op m os).wellFormed p then
      m.request (os.map fun o => BitVec.ofNat 8 (o.value p)) else none := rfl

/-- With the right operand count there is a request, and its fields are the operand bytes. -/
theorem mnemonicRequest_of_arity {m : Mnemonic} {bs : List Byte} (h : bs.length = m.arity) :
    ∃ i, m.request bs = some i ∧ i.mnemonic = m ∧ ∃ r d, (i = .crcInit ∧ bs = []) ∨ (i = .crcStep d ∧ bs = [d]) ∨
      (i = .readReg r ∧ bs = [r]) ∨ (i = .writeReg r d ∧ bs = [r, d]) ∨
      (i ∈ [Instr.angleDiscrete, .angleBurst, .autoZero, .progEeprom] ∧ bs = []) := by
  cases m with
  | crcInit =>
    obtain rfl := List.length_eq_zero_iff.mp h
    exact ⟨_, rfl, rfl, 0, 0, .inl ⟨rfl, rfl⟩⟩
  | crcStep =>
    obtain ⟨d, rfl⟩ := List.length_eq_one_iff.mp h
    exact ⟨_, rfl, rfl, 0, d, .inr (.inl ⟨rfl, rfl⟩)⟩
  | readReg =>
    obtain ⟨r, rfl⟩ := List.length_eq_one_iff.mp h
    exact ⟨_, rfl, rfl, r, 0, .inr (.inr (.inl ⟨rfl, rfl⟩))⟩
  | writeReg =>
    obtain ⟨r, d, rfl⟩ := List.length_eq_two.mp h
    exact ⟨_, rfl, rfl, r, d, .inr (.inr (.inr (.inl ⟨rfl, rfl⟩)))⟩
  | angleDiscrete | angleBurst | autoZero | progEeprom =>
    obtain rfl := List.length_eq_zero_iff.mp h
    exact ⟨_, rfl, rfl, 0, 0, .inr (.inr (.inr (.inr ⟨by decide, rfl⟩)))⟩

/-- Operands of 0 to 255 keep their values as bytes. -/
theorem toNat_operandBytes {p : Params} {os : List Operand} (h : ∀ o ∈ os, o.value p ≤ 255) :
    (os.map fun o => BitVec.ofNat 8 (o.value p)).map BitVec.toNat = os.map (·.value p) := by
  rw [List.map_map]
  exact List.map_congr_left fun o ho => Nat.mod_eq_of_lt (Nat.lt_succ_of_le (h o ho))

/-- Settles O6. -/
theorem assemblerLines : Obligations.AssemblerLines := by
  refine ⟨fun p m os => ?_, fun p m os i h => ?_⟩
  · rw [← wellFormed_op, request_op]
    split
    next hw =>
      obtain ⟨hcount, -⟩ := wellFormed_op.mp hw
      obtain ⟨i, hi, -⟩ := mnemonicRequest_of_arity ((List.length_map _).trans hcount)
      exact iff_of_true (Option.isSome_of_eq_some hi) hw
    next hw => exact iff_of_false nofun hw
  · rw [request_op] at h
    split at h
    next hw =>
      obtain ⟨hcount, hrange⟩ := wellFormed_op.mp hw
      obtain ⟨j, hj, hm, r, d, hfields⟩ := mnemonicRequest_of_arity ((List.length_map _).trans hcount)
      obtain rfl := Option.some.inj (h.symm.trans hj)
      have hvalues := toNat_operandBytes hrange
      refine ⟨hm, r, d, ?_⟩
      obtain ⟨hi, hb⟩ | ⟨hi, hb⟩ | ⟨hi, hb⟩ | ⟨hi, hb⟩ | ⟨hi, hb⟩ := hfields <;> rw [hb] at hvalues
      · exact .inl ⟨hi, List.map_eq_nil_iff.mp hb⟩
      · exact .inr (.inl ⟨hi, hvalues.symm⟩)
      · exact .inr (.inr (.inl ⟨hi, hvalues.symm⟩))
      · exact .inr (.inr (.inr (.inl ⟨hi, hvalues.symm⟩)))
      · exact .inr (.inr (.inr (.inr ⟨hi, List.map_eq_nil_iff.mp hb⟩)))
    next => cases h

end Sys2Proof

/-! SUPPORT. The transfers of an operation, as its trace shows them (30_encoding.md R76; 20_memory.md R53, R58;
41_transaction.md R124). -/

namespace Sys2Proof.Machine

/-- A transfer: the bytes sent, the status, the bytes received. -/
abbrev Transfer := List Byte × Word × List Byte

/-- As many bytes received as sent, 3, 5 or 6 (R53, R58), the first of them a command code of `p` (R76). -/
def Transfer.IsCommand (p : Params) (x : Transfer) : Prop :=
  x.1.length = x.2.2.length ∧ x.1.length ∈ [3, 5, 6] ∧ ∃ c ∈ p.codes, ∃ tail, x.1 = commandByte c :: tail

/-- The trace `tr` has grown to `tr'` by at most `n` bracketed commands, and by nothing else (R124). -/
def GrewByCommands (p : Params) (n : Nat) (tr tr' : List BusEvent) : Prop :=
  ∃ xs : List Transfer, tr' = tr ++ xs.flatMap (fun x => bracketEvents x.1 x.2.1 x.2.2) ∧ xs.length ≤ n ∧
    ∀ x ∈ xs, x.IsCommand p

theorem GrewByCommands.refl (p : Params) (tr : List BusEvent) : GrewByCommands p 0 tr tr :=
  ⟨[], by simp, Nat.le_refl 0, nofun⟩

theorem GrewByCommands.mono {p : Params} {n n' : Nat} {tr tr' : List BusEvent} (h : GrewByCommands p n tr tr')
    (hn : n ≤ n') : GrewByCommands p n' tr tr' := by
  obtain ⟨xs, hbus, hlen, hxs⟩ := h
  exact ⟨xs, hbus, hlen.trans hn, hxs⟩

theorem GrewByCommands.trans {p : Params} {m n : Nat} {tr tr' tr'' : List BusEvent} (h : GrewByCommands p m tr tr')
    (h' : GrewByCommands p n tr' tr'') : GrewByCommands p (m + n) tr tr'' := by
  obtain ⟨xs, hbus, hlen, hxs⟩ := h
  obtain ⟨ys, hbus', hlen', hys⟩ := h'
  refine ⟨xs ++ ys, by simp [hbus', hbus], by simp; omega, fun x hx => ?_⟩
  exact (List.mem_append.mp hx).elim (hxs x) (hys x)

/-! ### One transaction -/

/-- A transfer of 2 bytes or more sends as many as its length says. -/
theorem txBytes_length_eq {n : Nat} (hn : 2 ≤ n) (f : Frame) : (txBytes n f).length = n := by
  rw [txBytes_length]
  split <;> omega

theorem bytes_length {n : Nat} (hn : n ≤ 6) (a : Answer) : (a.bytes n).length = n := by
  simp [Answer.bytes]; omega

/-- The first byte sent is the command byte (R75, R77). -/
theorem txBytes_composed (n : Nat) (f : Frame) (cmd : Nibble) (reg : Byte) (d : DataArg) :
    ∃ tail, txBytes n (f.composed cmd reg d) = commandByte cmd :: tail := by
  obtain ⟨h0, -, -⟩ := composed_wire f cmd reg d
  unfold txBytes
  split <;> rw [h0] <;> exact ⟨_, rfl⟩

/-- The transfer that answer `a` makes of the offer of a command. -/
theorem isCommand_composed {p : Params} {cmd : Nibble} (hcmd : cmd ∈ p.codes) {n : Nat} (hn : n ∈ [3, 5, 6])
    (f : Frame) (reg : Byte) (d : DataArg) (st : Word) (a : Answer) :
    Transfer.IsCommand p (txBytes n (f.composed cmd reg d), st,
      a.bytes (txBytes n (f.composed cmd reg d)).length) := by
  have hbounds : 2 ≤ n ∧ n ≤ 6 := by simp at hn; omega
  have hlen := txBytes_length_eq hbounds.1 (f.composed cmd reg d)
  refine ⟨?_, ?_, cmd, hcmd, txBytes_composed ..⟩
  · simp only [hlen, bytes_length hbounds.2]
  · simpa only [hlen] using hn

/-- A bracket has made at most `n` commands since the trace was `tr`, unless it is left waiting. -/
def Bracket.Commands (p : Params) (n : Nat) (tr : List BusEvent) : Bracket → Prop
  | .received _ t => GrewByCommands p n tr t.bus
  | .stopped t => t.busy = false → GrewByCommands p n tr t.bus

theorem transaction_commands (op : BusOp) {cmd : Nibble} (reg : Byte) (d : DataArg) {n : Nat} {s : State}
    (hcmd : cmd ∈ s.params.codes) (hn : n ∈ [3, 5, 6]) :
    (transaction op cmd reg d n s).Commands s.params 1 s.bus := by
  have hone (st : Word) (a : Answer) : GrewByCommands s.params 1 s.bus
      (s.bus ++ bracketEvents (txBytes n (s.frame.composed cmd reg d)) st
        (a.bytes (txBytes n (s.frame.composed cmd reg d)).length)) :=
    ⟨[(_, st, _)], by simp, Nat.le_refl 1,
      List.forall_mem_singleton.mpr (isCommand_composed hcmd hn s.frame reg d st a)⟩
  cases ha : s.answers with
  | nil =>
    rw [transaction_unanswered op cmd reg d n s ha]
    exact nofun
  | cons a rest =>
    by_cases hs : s.params.portStatus a.status = 0
    · rw [transaction_received op cmd reg d n s a rest ha hs]
      exact hone 0 a
    · rw [transaction_failed op cmd reg d n s a rest ha hs]
      exact fun _ => hone _ a

theorem params_of_received {op : BusOp} {cmd : Nibble} {reg : Byte} {d : DataArg} {n : Nat} {s t : State}
    {rx : List Byte} (h : transaction op cmd reg d n s = .received rx t) : t.params = s.params := by
  have hsur := transaction_surroundings op cmd reg d n s
  rw [h] at hsur
  exact congrArg Surroundings.params hsur

/-! ### Every operation -/

theorem Bracket.Commands.bind {p : Params} {m n : Nat} {tr : List BusEvent} {b : Bracket}
    {k : List Byte → State → Bracket} (hb : b.Commands p m tr)
    (hk : ∀ rx t, b = .received rx t → (k rx t).Commands p n t.bus) : (b.bind k).Commands p (m + n) tr := by
  cases b with
  | stopped t => exact fun hend => GrewByCommands.mono (hb hend) (Nat.le_add_right m n)
  | received rx t =>
    have hnext := hk rx t rfl
    simp only [Bracket.bind]
    cases hkt : k rx t with
    | stopped u => rw [hkt] at hnext; exact fun hend => GrewByCommands.trans hb (hnext hend)
    | received rx' u => rw [hkt] at hnext; exact GrewByCommands.trans hb hnext

/-- One command for each register read. -/
theorem subReads_commands (k : Nat) (regs : List Byte) (s : State) :
    (subReads k regs s).Commands s.params regs.length s.bus := by
  induction regs generalizing k s with
  | nil => exact GrewByCommands.refl s.params s.bus
  | cons reg regs ih =>
    have hfirst : (transaction .angleDiscrete s.params.cmdRead reg .keep 3 { s with idx := k }).Commands
        s.params 1 s.bus :=
      transaction_commands .angleDiscrete reg .keep (s := { s with idx := k }) (by simp [Params.codes]) (by decide)
    rw [subReads_cons, List.length_cons, Nat.add_comm regs.length 1]
    refine hfirst.bind fun rx t ht => ?_
    have hp : (storeLayout k rx t).params = s.params := (params_of_received ht :)
    exact hp ▸ ih (k + 1) (storeLayout k rx t)

theorem Bracket.Commands.andThen {p : Params} {n : Nat} {tr : List BusEvent} {b : Bracket}
    {k : List Byte → State → State} {t : State} (hb : b.Commands p n tr) (h : b.andThen k = .next t)
    (hend : t.busy = false) (hk : ∀ rx u, (k rx u).bus = u.bus) : GrewByCommands p n tr t.bus := by
  cases b with
  | stopped u => cases h; exact hb hend
  | received rx u => cases h; exact (hk rx u).symm ▸ hb

theorem postProcess_bus (s : State) : (postProcess s).bus = s.bus := by
  unfold postProcess
  split
  · split <;> rfl
  · rfl

/-- The codes and lengths of R77 are those of R76 and R53. -/
theorem exec_commands {i : Instr} {s t : State} (h : exec i s = .next t) (hend : t.busy = false) :
    GrewByCommands s.params 4 s.bus t.bus := by
  have hack (rx : List Byte) (u : State) : (ackCheck rx u).bus = u.bus :=
    ackCheck_leaves State.bus (fun _ => rfl) (fun _ _ _ => rfl) rx u
  cases i with
  | crcInit | crcStep d => cases h; exact (GrewByCommands.refl _ _).mono (by decide)
  | readReg r =>
    exact ((transaction_commands _ _ _ (by simp [Params.codes]) (by decide)).andThen h hend fun _ _ => rfl).mono
      (by decide)
  | writeReg r d =>
    exact ((transaction_commands _ _ _ (by simp [Params.codes]) (by decide)).andThen h hend fun _ _ => rfl).mono
      (by decide)
  | angleDiscrete =>
    exact ((subReads_commands 0 _ s).andThen h hend fun _ u => postProcess_bus u).mono (discreteRegs_length_le _ _)
  | angleBurst =>
    have hlen : burstLength s.crcEn ∈ [3, 5, 6] := by cases s.crcEn <;> decide
    exact ((transaction_commands _ _ _ (by simp [Params.codes]) hlen).andThen h hend fun rx u =>
      postProcess_bus (storeBurst rx u)).mono (by decide)
  | autoZero =>
    exact ((transaction_commands _ _ _ (by simp [Params.codes]) (by decide)).andThen h hend hack).mono (by decide)
  | progEeprom =>
    exact ((transaction_commands _ _ _ (by simp [Params.codes]) (by decide)).andThen h hend hack).mono (by decide)

/-- Settles O31. -/
theorem transfersAreBracketedCommands : Obligations.TransfersAreBracketedCommands :=
  fun _ _ _ => exec_commands

end Sys2Proof.Machine

/-! SUPPORT. What an operation does depends on no received byte but those it consults (30_encoding.md R78, R79;
20_memory.md R52): runs on answers that agree in these keep in step. -/

namespace Sys2Proof.Machine

/-! ### Two brackets alike -/

/-- Two runs of a bracket go the same way: both stop, or both receive, bytes related by `rxs`, in states related by
`rel`. -/
inductive Bracket.Alike (rxs : List Byte → List Byte → Prop) (rel : State → State → Prop) : Bracket → Bracket → Prop
  | stopped {t u : State} (h : rel t u) : Alike rxs rel (.stopped t) (.stopped u)
  | received {rx rx' : List Byte} {t u : State} (hrx : rxs rx rx') (h : rel t u) :
    Alike rxs rel (.received rx t) (.received rx' u)

theorem Bracket.Alike.bind {rxs rxs' : List Byte → List Byte → Prop} {rel : State → State → Prop} {b b' : Bracket}
    {k : List Byte → State → Bracket} (h : b.Alike rxs rel b')
    (hk : ∀ rx rx' t u, rxs rx rx' → rel t u → (k rx t).Alike rxs' rel (k rx' u)) :
    (b.bind k).Alike rxs' rel (b'.bind k) := by
  cases h with
  | stopped h => exact .stopped h
  | received hrx h => exact hk _ _ _ _ hrx h

theorem Bracket.Alike.andThen {rxs : List Byte → List Byte → Prop} {rel : State → State → Prop} {b b' : Bracket}
    {k : List Byte → State → State} (h : b.Alike rxs rel b')
    (hk : ∀ rx rx' t u, rxs rx rx' → rel t u → rel (k rx t) (k rx' u)) :
    NextInStep rel (b.andThen k) (b'.andThen k) := by
  cases h with
  | stopped h => exact ⟨_, _, rfl, rfl, h⟩
  | received hrx h => exact ⟨_, _, rfl, rfl, hk _ _ _ _ hrx h⟩

/-! ### Answers that agree, and states that differ in what was received -/

/-- Two answers agree in status, and where it is 0 in what operation `i` consults. -/
def AnswersAgree (i : Instr) (p : Params) (c : Bool) (a b : Answer) : Prop :=
  p.portStatus a.status = p.portStatus b.status ∧ (p.portStatus a.status = 0 → SameConsulted i c a b)

/-- The `n` bytes of two answers that agree in what operation `i` consults. -/
def SameReceived (i : Instr) (c : Bool) (n : Nat) (rx rx' : List Byte) : Prop :=
  ∃ a b, SameConsulted i c a b ∧ rx = a.bytes n ∧ rx' = b.bytes n

/-- `s` with other bytes received, another trace, and other answers still to come. -/
def State.withReceived (s : State) (rx : List Byte) (tr : List BusEvent) (rest : List Answer) : State :=
  { s with rxb := rx, bus := tr, answers := rest }

/-- The part of a state that `ReceivedDiffer` speaks of. -/
def State.received (s : State) : Params × Bool × List Byte × List BusEvent × List Answer :=
  (s.params, s.crcEn, s.rxb, s.bus, s.answers)

/-- Inside runs on the answers `as` and `bs` with parameters `p` and CRC_EN = `c`: as many answers have been used up, and
the states differ in the values of the received bytes alone. -/
def ReceivedDiffer (p : Params) (c : Bool) (as bs : List Answer) (s u : State) : Prop :=
  s.params = p ∧ s.crcEn = c ∧ ∃ rx tr used, s.answers = as.drop used ∧
    tr.map BusEvent.erased = s.bus.map BusEvent.erased ∧ rx.length = s.rxb.length ∧
    u = s.withReceived rx tr (bs.drop used)

theorem bytes_length_congr (a b : Answer) (n : Nat) : (a.bytes n).length = (b.bytes n).length := by
  simp [Answer.bytes]

theorem erased_bracketEvents (tx : List Byte) (st : Word) {rx rx' : List Byte} (h : rx.length = rx'.length) :
    (bracketEvents tx st rx).map BusEvent.erased = (bracketEvents tx st rx').map BusEvent.erased := by
  simp [bracketEvents, BusEvent.erased, h]

theorem drop_succ_eq_of_drop_eq_cons {α : Type} {l rest : List α} {n : Nat} {a : α} (h : l.drop n = a :: rest) :
    l.drop (n + 1) = rest := by
  rw [← List.tail_drop, h, List.tail_cons]

section

variable {i : Instr} {p : Params} {c : Bool} {as bs : List Answer}

theorem transaction_alike (hagree : List.Forall₂ (AnswersAgree i p c) as bs) (op : BusOp) (cmd : Nibble) (reg : Byte)
    (d : DataArg) {n : Nat} (hn : 2 ≤ n) {s u : State} (h : ReceivedDiffer p c as bs s u) :
    (transaction op cmd reg d n s).Alike (SameReceived i c n) (ReceivedDiffer p c as bs)
      (transaction op cmd reg d n u) := by
  obtain ⟨rfl, hc, rx, tr, used, hused, htr, hrx, rfl⟩ := h
  have hleft := List.forall₂_drop used hagree
  rw [← hused] at hleft
  cases ha : s.answers with
  | nil =>
    have hb : bs.drop used = [] := List.forall₂_nil_left_iff.mp (ha ▸ hleft)
    rw [transaction_unanswered op cmd reg d n s ha,
      transaction_unanswered op cmd reg d n (s.withReceived rx tr (bs.drop used)) hb]
    exact .stopped ⟨rfl, hc, rx, tr ++ [.csWrite false, .csWrite true], used, hused, by simp [waiting, htr], hrx, rfl⟩
  | cons a rest =>
    obtain ⟨b, rest', ⟨hst, hsame⟩, -, hb⟩ := List.forall₂_cons_left_iff.mp (ha ▸ hleft)
    obtain rfl := drop_succ_eq_of_drop_eq_cons (hused.symm.trans ha)
    obtain rfl := drop_succ_eq_of_drop_eq_cons hb
    have hlen := bytes_length_congr b a (txBytes n (s.frame.composed cmd reg d)).length
    have hbus (st : Word) := congrArg₂ (· ++ ·) htr
      (erased_bracketEvents (txBytes n (s.frame.composed cmd reg d)) st hlen)
    simp only [← List.map_append] at hbus
    by_cases hs : s.params.portStatus a.status = 0
    · rw [transaction_received op cmd reg d n s a _ ha hs,
        transaction_received op cmd reg d n (s.withReceived rx tr (bs.drop used)) b _ hb (hst ▸ hs)]
      refine .received ⟨a, b, hsame hs, ?_, ?_⟩ ⟨rfl, hc, _, _, used + 1, rfl, hbus 0, hlen, rfl⟩ <;>
        rw [txBytes_length_eq hn]
    · rw [transaction_failed op cmd reg d n s a _ ha hs,
        transaction_failed op cmd reg d n (s.withReceived rx tr (bs.drop used)) b _ hb (hst ▸ hs)]
      have hst' : (s.withReceived rx tr (bs.drop used)).params.portStatus b.status = s.params.portStatus a.status :=
        hst.symm
      rw [hst']
      exact .stopped ⟨rfl, hc, _, _, used + 1, rfl, hbus _, hlen, rfl⟩

/-! ### What an operation does with what it received -/

/-- What a function leaves alone that writes none of the bytes received, the trace and the answers to come. -/
theorem ReceivedDiffer.map {f f' : State → State} {s u : State} (h : ReceivedDiffer p c as bs s u)
    (hkeeps : (f s).received = s.received)
    (hcomm : ∀ rx tr rest, f' (s.withReceived rx tr rest) = (f s).withReceived rx tr rest) :
    ReceivedDiffer p c as bs (f s) (f' u) := by
  obtain ⟨hp, hc, rx, tr, used, hused, htr, hrx, rfl⟩ := h
  simp only [State.received, Prod.mk.injEq] at hkeeps
  obtain ⟨hparams, hen, hrxb, hbus, hanswers⟩ := hkeeps
  exact ⟨hparams.trans hp, hen.trans hc, rx, tr, used, hanswers.trans hused, hbus ▸ htr, hrxb ▸ hrx, hcomm ..⟩

theorem complete_receivedDiffer {s u : State} (h : ReceivedDiffer p c as bs s u) :
    ReceivedDiffer p c as bs (complete s) (complete u) :=
  h.map rfl fun _ _ _ => rfl

theorem keepResult_receivedDiffer {rx rx' : List Byte} (hbyte : byteAt rx 2 = byteAt rx' 2) {s u : State}
    (h : ReceivedDiffer p c as bs s u) : ReceivedDiffer p c as bs (keepResult rx s) (keepResult rx' u) :=
  h.map rfl fun _ _ _ => by rw [keepResult, ← hbyte]; rfl

theorem ackCheck_receivedDiffer {rx rx' : List Byte} (hbyte : byteAt rx 2 = byteAt rx' 2) {s u : State}
    (h : ReceivedDiffer p c as bs s u) : ReceivedDiffer p c as bs (ackCheck rx s) (ackCheck rx' u) :=
  h.map (ackCheck_leaves _ (fun _ => rfl) (fun _ _ _ => rfl) rx s) fun _ _ _ => by
    simp only [ackCheck, ← hbyte]
    split <;> rfl

theorem storeLayout_receivedDiffer (k : Nat) {rx rx' : List Byte} (hbyte : byteAt rx 2 = byteAt rx' 2) {s u : State}
    (h : ReceivedDiffer p c as bs s u) : ReceivedDiffer p c as bs (storeLayout k rx s) (storeLayout k rx' u) :=
  h.map rfl fun _ _ _ => by rw [storeLayout, ← hbyte]; rfl

theorem storeBurst_receivedDiffer {rx rx' : List Byte} {s u : State}
    (hlayout : s.layout.ofBurst s.crcEn rx = s.layout.ofBurst s.crcEn rx') (h : ReceivedDiffer p c as bs s u) :
    ReceivedDiffer p c as bs (storeBurst rx s) (storeBurst rx' u) :=
  h.map rfl fun _ _ _ => by simp only [storeBurst, State.withReceived, hlayout]

theorem postProcess_receivedDiffer {s u : State} (h : ReceivedDiffer p c as bs s u) :
    ReceivedDiffer p c as bs (postProcess s) (postProcess u) := by
  cases hc : s.crcEn with
  | false =>
    refine h.map (by rw [postProcess_without_crc s hc]; rfl) fun rx tr rest => ?_
    rw [postProcess_without_crc s hc, postProcess_without_crc (s.withReceived rx tr rest) hc]
    rfl
  | true =>
    cases hm : crcCheck s.layout with
    | true =>
      refine h.map (by rw [postProcess_match s hc hm]; rfl) fun rx tr rest => ?_
      rw [postProcess_match s hc hm, postProcess_match (s.withReceived rx tr rest) hc hm]
      rfl
    | false =>
      refine h.map (by rw [postProcess_mismatch s hc hm]; rfl) fun rx tr rest => ?_
      rw [postProcess_mismatch s hc hm, postProcess_mismatch (s.withReceived rx tr rest) hc hm]
      rfl

/-- Every operation but the burst consults rx[2] of the three bytes of a transfer, or none (R78). -/
theorem SameReceived.byte {rx rx' : List Byte} (h : SameReceived i c 3 rx rx')
    (hi : ∀ a b, SameConsulted i c a b → a.rx2 = b.rx2) : byteAt rx 2 = byteAt rx' 2 := by
  obtain ⟨a, b, hsame, rfl, rfl⟩ := h
  exact hi a b hsame

/-- The burst consults rx[2] to rx[4], and rx[5] where it has one (R79). -/
theorem SameReceived.layout {rx rx' : List Byte} (h : SameReceived .angleBurst c (burstLength c) rx rx') (l : Layout) :
    l.ofBurst c rx = l.ofBurst c rx' := by
  obtain ⟨a, b, ⟨h2, h3, h4, h5⟩, rfl, rfl⟩ := h
  cases c with
  | false => simp [Layout.ofBurst, burstLength, Answer.bytes, byteAt, h2, h3, h4]
  | true => simp [Layout.ofBurst, burstLength, Answer.bytes, byteAt, h2, h3, h4, h5 rfl]

/-! ### Every operation -/

theorem subReads_alike (hagree : List.Forall₂ (AnswersAgree .angleDiscrete p c) as bs) (k : Nat) (regs : List Byte)
    {s u : State} (h : ReceivedDiffer p c as bs s u) :
    (subReads k regs s).Alike (fun _ _ => True) (ReceivedDiffer p c as bs) (subReads k regs u) := by
  induction regs generalizing k s u with
  | nil => exact .received trivial h
  | cons reg regs ih =>
    obtain ⟨hp, hc, rx, tr, used, hused, htr, hrx, rfl⟩ := h
    have hidx : ReceivedDiffer p c as bs { s with idx := k } { s.withReceived rx tr (bs.drop used) with idx := k } :=
      ⟨hp, hc, rx, tr, used, hused, htr, hrx, rfl⟩
    rw [subReads_cons, subReads_cons]
    have hread := transaction_alike hagree .angleDiscrete s.params.cmdRead reg .keep (n := 3) (by decide) hidx
    exact hread.bind fun rx rx' t v hrx htv => ih (k + 1) (storeLayout_receivedDiffer k (hrx.byte fun _ _ => id) htv)

theorem exec_receivedDiffer (hagree : List.Forall₂ (AnswersAgree i p c) as bs) {s u : State}
    (h : ReceivedDiffer p c as bs s u) : NextInStep (ReceivedDiffer p c as bs) (exec i s) (exec i u) := by
  have hu := h
  obtain ⟨rfl, rfl, rx, tr, used, hused, htr, hrx, rfl⟩ := hu
  cases i with
  | crcInit | crcStep d => exact ⟨_, _, rfl, rfl, rfl, rfl, rx, tr, used, hused, htr, hrx, rfl⟩
  | readReg r =>
    exact (transaction_alike hagree _ _ _ _ (by decide) h).andThen fun _ _ _ _ hrx =>
      keepResult_receivedDiffer (hrx.byte fun _ _ => id)
  | writeReg r d =>
    exact (transaction_alike hagree _ _ _ _ (by decide) h).andThen fun _ _ _ _ _ => complete_receivedDiffer
  | angleDiscrete =>
    exact (subReads_alike hagree 0 (discreteRegs s.params s.crcEn) h).andThen fun _ _ _ _ _ =>
      postProcess_receivedDiffer
  | angleBurst =>
    have hlen : 2 ≤ burstLength s.crcEn := by cases s.crcEn <;> decide
    refine (transaction_alike hagree _ _ _ _ hlen h).andThen fun rx rx' t v hrx htv => ?_
    have hlayout : t.layout.ofBurst t.crcEn rx = t.layout.ofBurst t.crcEn rx' := by
      obtain ⟨-, hen, -⟩ := htv
      exact hen ▸ hrx.layout t.layout
    exact postProcess_receivedDiffer (storeBurst_receivedDiffer hlayout htv)
  | autoZero =>
    exact (transaction_alike hagree _ _ _ _ (by decide) h).andThen fun _ _ _ _ hrx =>
      ackCheck_receivedDiffer (hrx.byte fun _ _ => id)
  | progEeprom =>
    exact (transaction_alike hagree _ _ _ _ (by decide) h).andThen fun _ _ _ _ hrx =>
      ackCheck_receivedDiffer (hrx.byte fun _ _ => id)

end

/-- Settles O43. -/
theorem unconsultedBytesDoNotMatter : Obligations.UnconsultedBytesDoNotMatter := by
  intro i s as bs hagree
  obtain ⟨t, u, ht, hu, -, -, rx, tr, used, hused, htr, hrx, rfl⟩ :=
    exec_receivedDiffer (i := i) (c := s.crcEn) hagree (s := { s with answers := as }) (u := { s with answers := bs })
      ⟨rfl, rfl, s.rxb, s.bus, 0, rfl, rfl, rfl, rfl⟩
  exact ⟨t, _, used, ht, hu, hused, rfl, htr, hrx, rfl⟩

end Sys2Proof.Machine

/-! SUPPORT. The CRC engine as linear algebra over GF(2) (40_crc.md R100 to R102): the shift, the ROM and the fold. -/

namespace Sys2Proof.Machine

/-! ### The shift and the ROM (R100) -/

theorem crcShift_xor (a b : Byte) : crcShift (a ^^^ b) = crcShift a ^^^ crcShift b := by
  have hpoly (x y : Bool) : (if x ^^ y then Config.crcPoly else 0) =
      (if x then Config.crcPoly else 0) ^^^ (if y then Config.crcPoly else 0) := by
    cases x <;> cases y <;> rfl
  simp only [crcShift, BitVec.shiftLeft_xor_distrib, BitVec.msb_xor, hpoly]
  ac_rfl

/-- The polynomial's bit 0 keeps a bit that is shifted out, so no nonzero byte is shifted to 0. -/
theorem eq_zero_of_crcShift_eq_zero : ∀ {c : Byte}, crcShift c = 0 → c = 0 := by
  decide

theorem crcShift_injective : Function.Injective crcShift := by
  intro a b h
  have hdiff : crcShift (a ^^^ b) = 0 := by rw [crcShift_xor, h, BitVec.xor_self]; rfl
  exact BitVec.xor_eq_zero_iff.mp (eq_zero_of_crcShift_eq_zero hdiff)

theorem crcShifts_xor (k : Nat) (a b : Byte) : crcShifts k (a ^^^ b) = crcShifts k a ^^^ crcShifts k b := by
  induction k generalizing a b with
  | zero => rfl
  | succ k ih => simp only [crcShifts, crcShift_xor, ih]

theorem crcShifts_injective (k : Nat) : Function.Injective (crcShifts k) := by
  induction k with
  | zero => exact Function.injective_id
  | succ k ih => exact ih.comp crcShift_injective

/-- Settles O18, by evaluation of the 256 entries. -/
theorem crcRomIsConstruction : Obligations.CrcRomIsConstruction := by
  unfold Obligations.CrcRomIsConstruction
  decide

theorem crcRom_xor (a b : Byte) : crcRom (a ^^^ b) = crcRom a ^^^ crcRom b := by
  simp only [crcRomIsConstruction _, crcShifts_xor]

theorem crcRom_injective : Function.Injective crcRom := by
  intro a b h
  rw [crcRomIsConstruction, crcRomIsConstruction] at h
  exact crcShifts_injective 8 h

/-! ### The fold (R101) -/

theorem crcNext_xor (acc acc' d d' : Byte) :
    crcNext (acc ^^^ acc') (d ^^^ d') = crcNext acc d ^^^ crcNext acc' d' := by
  have hswap : (acc ^^^ acc') ^^^ (d ^^^ d') = (acc ^^^ d) ^^^ (acc' ^^^ d') := by ac_rfl
  rw [crcNext, hswap, crcRom_xor]
  rfl

theorem crcNext_left_injective (d : Byte) : Function.Injective fun acc => crcNext acc d :=
  fun _ _ h => (BitVec.xor_left_inj d).mp (crcRom_injective h)

theorem crcNext_right_injective (acc : Byte) : Function.Injective (crcNext acc) :=
  fun _ _ h => (BitVec.xor_right_inj acc).mp (crcRom_injective h)

@[simp] theorem crcFold_nil (acc : Byte) : crcFold acc [] = acc := rfl

@[simp] theorem crcFold_cons (acc d : Byte) (l : List Byte) : crcFold acc (d :: l) = crcFold (crcNext acc d) l := rfl

theorem crcFold_append (acc : Byte) (l l' : List Byte) : crcFold acc (l ++ l') = crcFold (crcFold acc l) l' :=
  List.foldl_append

theorem crcFold_injective (l : List Byte) : Function.Injective fun acc => crcFold acc l := by
  induction l with
  | nil => exact Function.injective_id
  | cons d l ih => exact ih.comp (crcNext_left_injective d)

theorem crcFold_zeros (n : Nat) : crcFold 0 (List.replicate n 0) = 0 := by
  induction n with
  | zero => rfl
  | succ n ih =>
    have hzero : crcNext 0 0 = 0 := rfl
    rw [List.replicate_succ, crcFold_cons, hzero, ih]

theorem crcFold_xor {l l' : List Byte} (h : l.length = l'.length) (acc acc' : Byte) :
    crcFold (acc ^^^ acc') (List.zipWith (· ^^^ ·) l l') = crcFold acc l ^^^ crcFold acc' l' := by
  induction l generalizing l' acc acc' with
  | nil =>
    obtain rfl := List.length_eq_zero_iff.mp h.symm
    rfl
  | cons d l ih =>
    obtain _ | ⟨d', l'⟩ := l'
    · simp at h
    · simp only [List.zipWith_cons_cons, crcFold_cons, crcNext_xor]
      exact ih (by simpa using h) _ _

/-- The CRC tells apart two lists that differ in one byte. -/
theorem crc8_set_injective {l : List Byte} {k : Nat} (hk : k < l.length) :
    Function.Injective fun d => crc8 (l.set k d) := by
  intro d d' h
  simp only [List.set_eq_take_append_cons_drop, if_pos hk, crc8, crcFold_append, crcFold_cons] at h
  exact crcNext_right_injective _ (crcFold_injective _ h)

/-! ### The laws of Crc8 (R102, R109) -/

/-- Settles O20. -/
theorem crc8IncrementalAndBitwise : Obligations.Crc8IncrementalAndBitwise := by
  refine ⟨crcFold_append 0, crcFold_zeros, fun l => ?_⟩
  have hnext : crcNext = fun acc d => crcShifts 8 (acc ^^^ d) := by
    funext acc d
    exact crcRomIsConstruction _
  rw [crc8, crcFold, hnext]
  rfl

/-- Settles O21: Crc8 is the fold from 0 = 0 ^ 0. -/
theorem crc8Linear : Obligations.Crc8Linear :=
  fun _ _ h => crcFold_xor h 0 0

theorem bit_ne_zero {j : Nat} (hj : j < 8) : 1#8 <<< j ≠ 0 := by
  have hbit : ∀ i : Fin 8, 1#8 <<< i.val ≠ 0 := by decide
  exact hbit ⟨j, hj⟩

/-- Settles O22: the two lists differ in byte `k` alone. -/
theorem crc8DetectsSingleBit : Obligations.Crc8DetectsSingleBit := by
  intro l k j hk hj h
  have hself : l.set k (l.getD k 0 ^^^ 0) = l := by simp [hk]
  have hbyte := crc8_set_injective hk (h.trans (congrArg crc8 hself.symm))
  exact bit_ne_zero hj ((BitVec.xor_right_inj _).mp hbyte)

/-- Settles O19, by evaluation. -/
theorem crcCheckValue : Obligations.CrcCheckValue := by
  unfold Obligations.CrcCheckValue
  decide

end Sys2Proof.Machine

/-! SUPPORT. The operations on the CRC engine (40_crc.md R104, R105): their words, and their sequences. -/

namespace Sys2Proof

/-- A word is an operation exactly when it is the word of that operation (30_encoding.md R74). -/
theorem decode_eq_instr_iff {w : Word} {i : Instr} : decode w = .instr i ↔ w = encode i := by
  constructor
  · exact fun h => (encodeOfDecode w i h).symm
  · rintro rfl
    exact decodeOfEncode i

/-- A byte placed at bit `k`, above all of `w`. -/
theorem toNat_placed_or (b : Byte) {k : Nat} (hk : 8 + k ≤ 32) {w : Word} (hw : w.toNat < 2 ^ k) :
    (b.setWidth 32 <<< k ||| w).toNat = b.toNat * 2 ^ k + w.toNat := by
  have hfits : b.toNat <<< k < 2 ^ 32 := calc
    b.toNat <<< k = b.toNat * 2 ^ k := Nat.shiftLeft_eq ..
    _ < 2 ^ 8 * 2 ^ k := Nat.mul_lt_mul_of_pos_right b.isLt (Nat.two_pow_pos k)
    _ = 2 ^ (8 + k) := (Nat.pow_add ..).symm
    _ ≤ 2 ^ 32 := Nat.pow_le_pow_right (by decide) hk
  rw [BitVec.toNat_or, BitVec.toNat_shiftLeft, BitVec.toNat_setWidth_of_le (by decide), Nat.mod_eq_of_lt hfits,
    ← Nat.shiftLeft_add_eq_or_of_lt hw, Nat.shiftLeft_eq]

theorem requestWord_toNat (op : Nibble) (r d : Byte) :
    (requestWord op r d).toNat = op.toNat + r.toNat * 2 ^ 8 + d.toNat * 2 ^ 16 := by
  have hop : (op.setWidth 32).toNat = op.toNat := BitVec.toNat_setWidth_of_le (by decide)
  have hreg := toNat_placed_or r (k := 8) (w := op.setWidth 32) (by decide) (by omega)
  have hdata := toNat_placed_or d (k := 16) (w := r.setWidth 32 <<< 8 ||| op.setWidth 32) (by decide) (by omega)
  rw [requestWord, BitVec.or_assoc, hdata, hreg, hop]
  omega

end Sys2Proof

namespace Sys2Proof.Machine

/-- The block after a CRC operation that leaves `acc` in CRC_ACC. -/
def State.crcEnded (s : State) (acc : Byte) : State :=
  { s with crcAcc := acc, kind := 0, xferCode := 0, phase := .idle, held := [] }

theorem exec_crcInit (s : State) : exec .crcInit s = .next (s.crcEnded 0) := rfl

theorem exec_crcStep (d : Byte) (s : State) : exec (.crcStep d) s = .next (s.crcEnded (crcNext s.crcAcc d)) := rfl

theorem execAll_cons {i : Instr} {is : List Instr} {s t : State} (h : exec i s = .next t) :
    execAll (i :: is) s = execAll is t := by
  simp [execAll, h]

theorem execAll_crcSteps (l : List Byte) (s : State) (acc : Byte) :
    execAll (l.map .crcStep) (s.crcEnded acc) = .next (s.crcEnded (crcFold acc l)) := by
  induction l generalizing acc with
  | nil => rfl
  | cons d l ih =>
    rw [List.map_cons, execAll_cons (exec_crcStep d _)]
    exact ih (crcNext acc d)

/-- Settles O23. -/
theorem crcInitOutcome : Obligations.CrcInitOutcome :=
  ⟨fun _ => decode_eq_instr_iff, exec_crcInit⟩

/-- Settles O24: the sequence is the fold, an operation for each byte. -/
theorem crcStepOutcome : Obligations.CrcStepOutcome := by
  refine ⟨fun w d => ?_, fun s d => exec_crcStep d s, fun s l => ?_⟩
  · rw [decode_eq_instr_iff, ← BitVec.toNat_inj, encode, requestWord_toNat]
    simp
  · rw [execAll_cons (exec_crcInit s)]
    exact execAll_crcSteps l s 0

end Sys2Proof.Machine

/-! SUPPORT. All-zero telemetry (40_crc.md R108): what the angle operations bring to post-processing. -/

namespace Sys2Proof.Machine

theorem exec_angleBurst_received {s : State} {a : Answer} {rest : List Answer} (h : s.answers = a :: rest)
    (hs : s.params.portStatus a.status = 0) :
    ∃ t : State, exec .angleBurst s = .next (postProcess t) ∧ t.crcEn = s.crcEn ∧
      t.layout = s.layout.ofBurst s.crcEn (a.bytes (burstLength s.crcEn)) := by
  have hlen : 2 ≤ burstLength s.crcEn := by unfold burstLength; split <;> decide
  have hrx := transaction_received .angleBurst s.params.cmdBurst s.params.regAngleH .keep (burstLength s.crcEn) s
    a rest h hs
  rw [txBytes_length_eq hlen] at hrx
  simp only [exec, execAngleBurst, hrx, Bracket.andThen]
  exact ⟨_, rfl, rfl, rfl⟩

theorem subReads_all_received {regs : List Byte} {good rest : List Answer} (k : Nat) {s : State}
    (h : s.answers = good ++ rest) (hlen : good.length = regs.length)
    (hgood : ∀ a ∈ good, s.params.portStatus a.status = 0) :
    ∃ t : State, subReads k regs s = .received [] t ∧ t.crcEn = s.crcEn ∧ t.layout = subReadLayout s.layout k good := by
  induction good generalizing regs k s with
  | nil =>
    obtain rfl := List.length_eq_zero_iff.mp hlen.symm
    exact ⟨s, rfl, rfl, rfl⟩
  | cons a good ih =>
    obtain _ | ⟨reg, regs⟩ := regs
    · simp at hlen
    · obtain ⟨ha, hgood⟩ := List.forall_mem_cons.mp hgood
      rw [subReads_received k reg regs s a (good ++ rest) h ha]
      exact ih (k + 1) rfl (by simpa using hlen) hgood

theorem exec_angleDiscrete_received {s : State} {good rest : List Answer} (h : s.answers = good ++ rest)
    (hlen : good.length = if s.crcEn then 4 else 3) (hgood : ∀ a ∈ good, s.params.portStatus a.status = 0) :
    ∃ t : State, exec .angleDiscrete s = .next (postProcess t) ∧ t.crcEn = s.crcEn ∧
      t.layout = subReadLayout s.layout 0 good := by
  obtain ⟨t, ht, hcrc, hlayout⟩ :=
    subReads_all_received 0 h (hlen.trans (discreteRegs_length s.params s.crcEn).symm) hgood
  refine ⟨t, ?_, hcrc, hlayout⟩
  simp only [exec, execAngleDiscrete, ht, Bracket.andThen]

theorem crcCheck_zero : crcCheck ⟨0, 0, 0, 0⟩ = true :=
  beq_iff_eq.mpr (crcFold_zeros 3)

theorem postProcess_zero_layout {t : State} (hcrc : t.crcEn = true) (h : t.layout = ⟨0, 0, 0, 0⟩) :
    (postProcess t).kind = 0 ∧ (postProcess t).crcOk = true ∧ (postProcess t).rawAngle = 0 ∧
    (postProcess t).warn = 0 := by
  rw [postProcess_match t hcrc (h ▸ crcCheck_zero)]
  simp [h, assemble, warnOf]

/-- Settles O38. -/
theorem allZeroTelemetryPasses : Obligations.AllZeroTelemetryPasses := by
  refine ⟨crcCheck_zero, fun s a rest h hcrc hs h2 h3 h4 h5 => ?_, fun s a b c d rest h hcrc hall => ?_⟩
  · obtain ⟨t, ht, htcrc, hlayout⟩ := exec_angleBurst_received h hs
    have hzero : t.layout = ⟨0, 0, 0, 0⟩ := by
      simpa [hcrc, burstLength, Answer.bytes, Layout.ofBurst, byteAt, h2, h3, h4, h5] using hlayout
    exact ⟨_, ht, postProcess_zero_layout (htcrc.trans hcrc) hzero⟩
  · obtain ⟨t, ht, htcrc, hlayout⟩ := exec_angleDiscrete_received (good := [a, b, c, d]) h (by simp [hcrc])
      fun x hx => (hall x hx).1
    have hzero : t.layout = ⟨0, 0, 0, 0⟩ := by
      simpa [subReadLayout, Layout.put, hall] using hlayout
    exact ⟨_, ht, postProcess_zero_layout (htcrc.trans hcrc) hzero⟩

end Sys2Proof.Machine

/-! SUPPORT. Every step keeps the invariant: its trace one event at a time, then one lemma for each way an operation goes on
or ends (41_transaction.md R122, R123; 60_exceptions.md R182, R183). A request line is the events of its operation (log 2),
so it needs no argument of its own. -/

namespace Sys2Proof.Machine

/-! ### The stage a trace leads to -/

theorem busStageFrom_append (g : BusStage) (tr tr' : List BusEvent) :
    busStageFrom g (tr ++ tr') = (busStageFrom g tr).bind (busStageFrom · tr') := by
  induction tr generalizing g with
  | nil => rfl
  | cons e tr ih =>
    simp only [List.cons_append, busStageFrom, Option.bind_assoc]
    exact congrArg _ (funext ih)

theorem busStage_append (tr tr' : List BusEvent) : busStage (tr ++ tr') = (busStage tr).bind (busStageFrom · tr') :=
  busStageFrom_append .quiet tr tr'

theorem busStageFrom_singleton (g : BusStage) (e : BusEvent) : busStageFrom g [e] = g.after e :=
  Option.bind_fun_some _

theorem after_reset (g : BusStage) : g.after .reset = some .quiet := by
  cases g <;> rfl

/-- Chip-select is asserted between event 2 and event 4 (R123). -/
theorem asserts_of_stage_eq {ph ph' : Phase} (h : ph'.stage = ph.stage) : ph'.asserts = ph.asserts := by
  have hstage (p : Phase) : p.asserts = decide (p.stage ∈ [.asserted, .moved]) := by
    cases p with
    | idle | decode | post => rfl
    | bus op point => cases point <;> rfl
  rw [hstage, hstage, h]

theorem code_eq_transport_iff (k : Kind) : k.code = Kind.transport.code ↔ k = .transport := by
  cases k <;> decide

theorem code_eq_crcCheckFailed_iff (k : Kind) : k.code = Kind.crcCheckFailed.code ↔ k = .crcCheckFailed := by
  cases k <;> decide

/-- The transfers of 30_encoding.md R77 have 3, 5 or 6 bytes. -/
theorem transfer_length_bounds (op : BusOp) (s : State) : 2 ≤ (op.transfer s).n ∧ (op.transfer s).n ≤ 6 := by
  cases op with
  | angleBurst => cases hc : s.crcEn <;> simp [BusOp.transfer, burstLength, hc]
  | readReg | writeReg | angleDiscrete | autoZero | progEeprom => simp [BusOp.transfer]

/-- IDX fits the phase `ph`: in ANGLE_DISCRETE it is one of the sub-reads (42_angle.md R153). -/
def State.IdxFits (s : State) (ph : Phase) : Prop :=
  ∀ point, ph = .bus .angleDiscrete point → s.idx < (discreteRegs s.params s.crcEn).length

namespace State.Inv

variable {s : State}

theorem stage_after (h : s.Inv) (e : BusEvent) : busStage (s.bus ++ [e]) = s.phase.stage.after e := by
  rw [busStage_append, h.trace_brackets, Option.bind_some, busStageFrom_singleton]

/-! ### How an operation goes on -/

theorem idxFits_same_op (h : s.Inv) {op : BusOp} {p : Point} (hp : s.phase = .bus op p) (q : Point) :
    s.IdxFits (.bus op q) := by
  rintro _ ⟨⟩
  exact h.idx_subread p hp

/-- PHASE goes on without a bus event. -/
theorem phase_change (h : s.Inv) {ph : Phase} (hst : ph.stage = s.phase.stage) (hbusy : ph ≠ .idle)
    (hidx : s.IdxFits ph) : State.Inv { s with phase := ph } :=
  { h with
    cs_follows_phase := h.cs_follows_phase.trans (asserts_of_stage_eq hst).symm
    trace_brackets := h.trace_brackets.trans (congrArg some hst.symm)
    idx_subread := hidx
    held_idle := fun hidle => absurd hidle hbusy }

/-- PHASE goes on with the bus event `e`, after which CS is `a`. -/
theorem bus_change (h : s.Inv) {e : BusEvent} {a : Bool} {ph : Phase} (hst : s.phase.stage.after e = some ph.stage)
    (hcs : a = ph.asserts) (hbusy : ph ≠ .idle) (hidx : s.IdxFits ph) :
    State.Inv { s with phase := ph, cs := a, bus := s.bus ++ [e] } :=
  { h with
    cs_follows_phase := hcs
    trace_brackets := (h.stage_after e).trans hst
    idx_subread := hidx
    held_idle := fun hidle => absurd hidle hbusy }

theorem csWrite_change (h : s.Inv) {a : Bool} {ph : Phase} (hst : s.phase.stage.after (.csWrite a) = some ph.stage)
    (hcs : a = ph.asserts) (hbusy : ph ≠ .idle) (hidx : s.IdxFits ph) :
    State.Inv { csWrite a s with phase := ph } :=
  { h.bus_change hst hcs hbusy hidx with held_idle := fun hidle => absurd hidle hbusy }

/-- A transaction begins. -/
theorem entering (h : s.Inv) (hq : s.phase.stage = .quiet) {op : BusOp} (hidx : s.IdxFits (.bus op .release)) :
    (Machine.entering op s).Inv :=
  h.phase_change hq.symm nofun hidx

theorem entering_single (h : s.Inv) (hq : s.phase.stage = .quiet) {op : BusOp} (hop : op ≠ .angleDiscrete) :
    (Machine.entering op s).Inv :=
  h.entering hq fun _ heq => absurd (Phase.bus.inj heq).1 hop

theorem latch (h : s.Inv) (hidle : s.phase = .idle) (w : Word) : (Machine.latch w s).Inv :=
  { h.phase_change (ph := .decode) (by rw [hidle]; rfl) nofun nofun with held_idle := nofun }

/-! ### How an operation ends -/

/-- An operation may end, between its transactions, with result code `k`, XFER_CODE `c` and CRC_OK `ok` that agree with one
another and with CRC_EN. -/
theorem ended (h : s.Inv) (hq : s.phase.stage = .quiet) {k : BitVec 3} {c : Word} {ok : Bool} (hk : k ∈ writtenKinds)
    (hc : k = Kind.transport.code ↔ c ≠ 0) (hw : s.params.portStatus c = c)
    (hoff : s.crcEn = false → ok = false ∧ k ≠ Kind.crcCheckFailed.code)
    (hfail : k = Kind.crcCheckFailed.code → ok = false) :
    State.Inv (finish { s with kind := k, xferCode := c, crcOk := ok }) :=
  { h with
    kind_written := hk
    code_iff_transport := hc
    code_width := hw
    crc_off := hoff
    crc_failed := hfail
    cs_follows_phase := h.cs_follows_phase.trans (asserts_of_stage_eq (ph := .idle) hq)
    trace_brackets := h.trace_brackets.trans (congrArg some hq)
    idx_subread := nofun
    held_idle := fun _ => rfl }

theorem complete (h : s.Inv) (hq : s.phase.stage = .quiet) : (Machine.complete s).Inv :=
  h.ended hq (k := 0) (by decide) (by decide) (portStatus_zero _) (fun hoff => ⟨(h.crc_off hoff).1, by decide⟩)
    (absurd · (by decide))

theorem raise (h : s.Inv) (hq : s.phase.stage = .quiet) {k : Kind} {st : Word} (hk : k.code ∈ writtenKinds)
    (hst : k = .transport → st ≠ 0 ∧ s.params.portStatus st = st)
    (hcrc : k = .crcCheckFailed → s.crcEn = true ∧ s.crcOk = false) : (Machine.raise k st s).Inv := by
  have hfailed (he : k.code = Kind.crcCheckFailed.code) := hcrc ((code_eq_crcCheckFailed_iff k).mp he)
  refine h.ended hq hk ?_ ?_ (fun hoff => ⟨(h.crc_off hoff).1, fun he => ?_⟩) fun he => (hfailed he).2
  · rw [code_eq_transport_iff]
    by_cases ht : k = .transport
    · simpa only [if_pos ht, iff_true_left ht] using (hst ht).1
    · simp [ht]
  · split
    next ht => exact (hst ht).2
    next => exact portStatus_zero _
  · simp [(hfailed he).1] at hoff

/-- A result code other than Transport and CrcCheckFailed. -/
theorem raise_plain (h : s.Inv) (hq : s.phase.stage = .quiet) {k : Kind} (hk : k ∈ [.error, .invalidArgument]) :
    (Machine.raise k 0 s).Inv := by
  have hall : ∀ k ∈ [Kind.error, .invalidArgument],
      k.code ∈ writtenKinds ∧ k ≠ .transport ∧ k ≠ .crcCheckFailed := by decide
  obtain ⟨hw, ht, hc⟩ := hall k hk
  exact h.raise hq hw (absurd · ht) (absurd · hc)

theorem ackCheck (h : s.Inv) (hq : s.phase.stage = .quiet) (rx : List Byte) : (Machine.ackCheck rx s).Inv := by
  unfold Machine.ackCheck
  split
  · exact h.complete hq
  · exact h.raise_plain hq (by decide)

theorem postProcess (h : s.Inv) (hq : s.phase.stage = .quiet) : (Machine.postProcess s).Inv := by
  have hpublished : (publish s).Inv := { h with }
  cases hc : s.crcEn with
  | false =>
    rw [postProcess_without_crc s hc]
    exact hpublished.complete hq
  | true =>
    cases hm : crcCheck s.layout with
    | true =>
      rw [postProcess_match s hc hm]
      exact hpublished.ended hq (k := 0) (ok := true) (by decide) (by decide) (portStatus_zero _)
        (fun hoff => by simp [hc] at hoff) (absurd · (by decide))
    | false =>
      rw [postProcess_mismatch s hc hm]
      have hcleared : State.Inv { s with crcOk := false } :=
        { h with crc_off := fun hoff => ⟨rfl, (h.crc_off hoff).2⟩, crc_failed := fun _ => rfl }
      exact hcleared.raise hq (by decide) nofun fun _ => ⟨hc, rfl⟩

/-! ### One event, by PHASE (10_state.md R22) -/

theorem beginOp (h : s.Inv) (hq : s.phase.stage = .quiet) (i : Instr) : (Machine.beginOp i s).Inv := by
  cases i with
  | crcInit => exact complete (s := { s with crcAcc := Config.crcInitValue }) { h with } hq
  | crcStep d => exact complete (s := { s with crcAcc := crcNext s.crcAcc d }) { h with } hq
  | readReg r => exact h.entering_single hq nofun
  | writeReg r d => exact h.entering_single hq nofun
  | angleDiscrete =>
    have hfirst : 0 < (discreteRegs s.params s.crcEn).length :=
      List.length_pos_iff.mpr (discreteRegs_ne_nil s.params s.crcEn)
    have hzero : State.Inv { s with idx := 0 } :=
      { h with idx_bounded := Nat.zero_le 3, idx_subread := fun _ _ => hfirst }
    exact hzero.entering hq fun _ _ => hfirst
  | angleBurst => exact h.entering_single hq nofun
  | autoZero => exact h.entering_single hq nofun
  | progEeprom => exact h.entering_single hq nofun

theorem decodeEvent (h : s.Inv) (hq : s.phase.stage = .quiet) : (Machine.decodeEvent s).Inv := by
  cases hd : decode s.rq with
  | instr i => rw [decodeEvent_instr hd]; exact h.beginOp hq i
  | invalid why => rw [decodeEvent_invalid hd]; exact h.raise_plain hq (by decide)

/-- IDX counts up to the last sub-read. -/
theorem nextSubRead (h : s.Inv) (hp : s.phase = .bus .angleDiscrete .judge) : (Machine.nextSubRead s).Inv := by
  have hq : s.phase.stage = .quiet := by rw [hp]; rfl
  have hlt := h.idx_subread .judge hp
  by_cases hmore : s.idx + 1 < (discreteRegs s.params s.crcEn).length
  · rw [nextSubRead_more hmore]
    have hle := discreteRegs_length_le s.params s.crcEn
    have hnext : State.Inv { storeLayout s.idx s.rxb s with idx := s.idx + 1 } :=
      { h with
        idx_bounded := show s.idx + 1 ≤ 3 by omega
        idx_subread := fun _ _ => hmore }
    exact hnext.entering hq fun _ _ => hmore
  · rw [nextSubRead_last (by omega)]
    have hstored : (storeLayout s.idx s.rxb s).Inv := { h with }
    exact hstored.phase_change hq.symm nofun nofun

theorem absorb (h : s.Inv) {op : BusOp} (hp : s.phase = .bus op .judge) : (op.absorb s).Inv := by
  have hq : s.phase.stage = .quiet := by rw [hp]; rfl
  cases op with
  | readReg r => exact complete (s := { s with resultData := byteAt s.rxb 2 }) { h with } hq
  | writeReg r d => exact h.complete hq
  | angleDiscrete => exact h.nextSubRead hp
  | angleBurst =>
    have hstored : (storeBurst s.rxb s).Inv := { h with }
    exact hstored.phase_change hq.symm nofun nofun
  | autoZero => exact h.ackCheck hq s.rxb
  | progEeprom => exact h.ackCheck hq s.rxb

/-- `Compose` writes 0 to RSV and keeps TRAIL (R121). -/
theorem compose_load (h : s.Inv) (cmd : Nibble) (reg : Byte) (d : DataArg) {n : Nat} (hn : 2 ≤ n ∧ n ≤ 6)
    (hbusy : s.phase ≠ .idle) : (loadTx n (compose cmd reg d s)).Inv :=
  { h with
    frame_reserved := ⟨rfl, h.frame_reserved.2⟩
    buffers_bounded := ⟨(txBytes_length_eq hn.1 _).trans_le hn.2, h.buffers_bounded.2⟩
    held_idle := fun hidle => absurd hidle hbusy }

theorem takeAnswer_change (h : s.Inv) {op : BusOp} (hp : s.phase = .bus op .xfer) (a : Answer) (rest : List Answer) :
    State.Inv { takeAnswer a rest s with phase := .bus op .deassert } :=
  have hmoved := h.bus_change (ph := .bus op .deassert) (a := s.cs)
    (e := .xfer s.txb (s.params.portStatus a.status) (a.bytes s.txb.length)) (by rw [hp]; rfl)
    (by rw [h.cs_follows_phase, hp]; rfl) nofun (h.idxFits_same_op hp _)
  { hmoved with
    status_width := portStatus_idem s.params a.status
    buffers_bounded := ⟨h.buffers_bounded.1, (bytes_length h.buffers_bounded.1 a).trans_le h.buffers_bounded.1⟩
    held_idle := nofun }

theorem busEvent (h : s.Inv) {op : BusOp} {point : Point} (hp : s.phase = .bus op point) :
    (Machine.busEvent op point s).Inv := by
  have hnext (q : Point) : s.IdxFits (.bus op q) := h.idxFits_same_op hp q
  cases point with
  | release => exact h.csWrite_change (by rw [hp]; rfl) rfl nofun (hnext .compose)
  | compose =>
    have hloaded := h.compose_load (op.transfer s).cmd (op.transfer s).reg (op.transfer s).data
      (transfer_length_bounds op s) (by simp [hp])
    exact hloaded.phase_change (show BusStage.released = s.phase.stage by rw [hp]; rfl) nofun (hnext .assert)
  | assert => exact h.csWrite_change (by rw [hp]; rfl) rfl nofun (hnext .xfer)
  | xfer =>
    cases ha : s.answers with
    | nil => rw [busEvent_xfer_unanswered op ha]; exact h
    | cons a rest => rw [busEvent_xfer_answered op ha]; exact h.takeAnswer_change hp a rest
  | deassert => exact h.csWrite_change (by rw [hp]; rfl) rfl nofun (hnext .judge)
  | judge =>
    by_cases hs : s.xst = 0
    · rw [busEvent_judge_received op hs]; exact h.absorb hp
    · rw [busEvent_judge_failed op hs]
      exact h.raise (by rw [hp]; rfl) (by decide) (fun _ => ⟨hs, h.status_width⟩) nofun

theorem advance (h : s.Inv) : (Machine.advance s).Inv := by
  cases hp : s.phase with
  | idle => rw [advance_idle hp]; exact h
  | decode => rw [advance_decode hp]; exact h.decodeEvent (by rw [hp]; rfl)
  | bus op point => rw [advance_bus hp]; exact h.busEvent hp
  | post => rw [advance_post hp]; exact h.postProcess (by rw [hp]; rfl)

theorem advances (k : Nat) (h : s.Inv) : (Machine.advances k s).Inv := by
  induction k generalizing s with
  | zero => exact h
  | succ k ih => exact ih h.advance

/-! ### One step, by the act that is next -/

theorem awaiting (h : s.Inv) (is : List Input) : (s.awaiting is).Inv := { h with }

theorem requestLine {t : State} {w : Word} (h : s.Inv) (ht : Machine.requestLine w s = .next t) : t.Inv := by
  cases hb : s.busy with
  | true => simp [Machine.requestLine, hb] at ht
  | false =>
    rw [requestLine_idle hb, eventsReachOperationOutcome] at ht
    cases ht
    exact (h.latch (busy_eq_false_iff.mp hb) w).advances eventBound

theorem issueLine {t : State} {w : Word} (h : s.Inv) (ht : Machine.issueLine w s = .next t) : t.Inv := by
  cases hb : s.busy with
  | true => simp [Machine.issueLine, hb] at ht
  | false =>
    rw [issueLine_idle hb] at ht
    cases ht
    exact h.latch (busy_eq_false_iff.mp hb) w

theorem hostWrite (h : s.Inv) (idx : Nat) (v : Word) : (Machine.hostWrite idx v s).Inv := by
  by_cases hidx : idx = 0
  · subst hidx
    cases hb : s.busy with
    | true => rw [hostWrite_req_busy hb]; exact h
    | false => rw [hostWrite_req_idle hb]; exact h.latch (busy_eq_false_iff.mp hb) v
  · rw [hostWrite_other hidx]; exact h

theorem hostRead {t : State} {idx : Nat} (h : s.Inv) (ht : Machine.hostRead idx s = .next t) : t.Inv := by
  rw [hostRead_keeps ht]
  exact { h with }

theorem waitLine (h : s.Inv) (rest : List Input) : (Machine.waitLine rest s).Inv := by
  unfold Machine.waitLine
  split
  · exact h.advance
  · exact h.awaiting rest

/-- Reset ends the transaction in progress on the bus, wherever it stands (70_reset_and_hazards.md R203). -/
theorem applyReset (h : s.Inv) : (Machine.applyReset s).Inv :=
  { powerOnMeetsInvariant.1 s.params s.cfgCrcEn with
    trace_brackets := (h.stage_after .reset).trans (after_reset s.phase.stage) }

end State.Inv

theorem step_none {s : State} (h : s.inputs = []) : step s = .next (advance s) := by
  simp [step, act, h]

theorem step_event {s : State} {rest : List Input} (h : s.inputs = .event :: rest) :
    step s = .next (advance (s.awaiting rest)) := by
  simp [step, act, h, State.awaiting]

theorem step_reset {s : State} {rest : List Input} (h : s.inputs = .reset :: rest) :
    step s = .next (applyReset (s.awaiting rest)) := by
  simp [step, act, h, State.awaiting]

theorem step_pin {s : State} {b : Bool} {rest : List Input} (h : s.inputs = .pin b :: rest) :
    step s = .next { s with inputs := rest, cfgCrcEn := b } := by
  simp [step, act, h]

/-- Settles O50, act by act. -/
theorem stepKeepsInvariant : Obligations.StepKeepsInvariant := by
  intro s t h ht
  cases hin : s.inputs with
  | nil => rw [step_none hin] at ht; cases ht; exact h.advance
  | cons i rest =>
    have hrest : (s.awaiting rest).Inv := h.awaiting rest
    cases i with
    | request w => exact hrest.requestLine (step_request hin ▸ ht)
    | issue w => exact hrest.issueLine (step_issue hin ▸ ht)
    | write idx v => rw [step_write hin] at ht; cases ht; exact hrest.hostWrite idx v
    | read idx => exact hrest.hostRead (step_read hin ▸ ht)
    | event => rw [step_event hin] at ht; cases ht; exact hrest.advance
    | wait => rw [step_wait hin] at ht; cases ht; exact h.waitLine rest
    | reset => rw [step_reset hin] at ht; cases ht; exact hrest.applyReset
    | pin b => rw [step_pin hin] at ht; cases ht; exact { h with }

end Sys2Proof.Machine

/-! SUPPORT. The chip-select contract (41_transaction.md R123, R124), read off a trace whose stages are in order. -/

namespace Sys2Proof.Machine

/-- The events a transaction consists of, and where each leads (R124); a reset leads to `quiet` from anywhere. -/
inductive BusStage.Leads : BusStage → BusEvent → BusStage → Prop
  | release : Leads .quiet (.csWrite false) .released
  | assert : Leads .released (.csWrite true) .asserted
  | xfer (tx : List Byte) (st : Word) (rx : List Byte) : Leads .asserted (.xfer tx st rx) .moved
  | deassert : Leads .moved (.csWrite false) .quiet
  | reset (g : BusStage) : Leads g .reset .quiet

theorem leads_of_after {g g' : BusStage} {e : BusEvent} (h : g.after e = some g') : g.Leads e g' := by
  unfold BusStage.after at h
  split at h <;> cases h
  · exact .reset g
  · exact .release
  · exact .assert
  · exact .xfer _ _ _
  · exact .deassert

/-! ### What stands before and after an event in a trace -/

/-- The stages before an event and after it, in a trace that leads to a stage. -/
theorem stages_around {pre post : List BusEvent} {e : BusEvent} {g : BusStage}
    (h : busStage (pre ++ e :: post) = some g) :
    ∃ g₁ g₂, busStage pre = some g₁ ∧ g₁.Leads e g₂ ∧ busStageFrom g₂ post = some g := by
  rw [busStage_append, Option.bind_eq_some_iff] at h
  obtain ⟨g₁, hpre, h⟩ := h
  rw [busStageFrom, Option.bind_eq_some_iff] at h
  obtain ⟨g₂, he, hpost⟩ := h
  exact ⟨g₁, g₂, hpre, leads_of_after he, hpost⟩

/-- A trace that leads to a stage other than `quiet` ends with an event that leads there. -/
theorem last_event {tr : List BusEvent} {g : BusStage} (h : busStage tr = some g) (hg : g ≠ .quiet) :
    ∃ tr' e g', tr = tr' ++ [e] ∧ busStage tr' = some g' ∧ g'.Leads e g := by
  obtain rfl | ⟨tr', e, rfl⟩ := tr.eq_nil_or_concat'
  · exact absurd (Option.some.inj h).symm hg
  · obtain ⟨g', g₂, htr', he, hnil⟩ := stages_around h
    obtain rfl : g₂ = g := Option.some.inj hnil
    exact ⟨tr', e, g', rfl, htr', he⟩

/-- A trace that leads on from stage `g` is empty or begins with an event that may come there. -/
theorem first_event {tr : List BusEvent} {g g' : BusStage} (h : busStageFrom g tr = some g') :
    tr = [] ∨ ∃ e tr' g₁, tr = e :: tr' ∧ g.Leads e g₁ := by
  cases tr with
  | nil => exact .inl rfl
  | cons e tr' =>
    obtain ⟨g₁, he, -⟩ := Option.bind_eq_some_iff.mp h
    exact .inr ⟨e, tr', g₁, rfl, leads_of_after he⟩

theorem ends_released {tr : List BusEvent} (h : busStage tr = some .released) : ∃ tr', tr = tr' ++ [.csWrite false] := by
  obtain ⟨tr', e, g, rfl, -, he⟩ := last_event h nofun
  cases he
  exact ⟨tr', rfl⟩

theorem ends_asserted {tr : List BusEvent} (h : busStage tr = some .asserted) :
    ∃ tr', tr = tr' ++ [.csWrite false, .csWrite true] := by
  obtain ⟨tr₁, e, g, rfl, htr₁, he⟩ := last_event h nofun
  cases he
  obtain ⟨tr', rfl⟩ := ends_released htr₁
  exact ⟨tr', List.append_assoc ..⟩

theorem begins_after_asserted {tr : List BusEvent} {g : BusStage} (h : busStageFrom .asserted tr = some g) :
    tr = [] ∨ (∃ tx st rx tr', tr = .xfer tx st rx :: tr') ∨ ∃ tr', tr = .reset :: tr' := by
  obtain rfl | ⟨e, tr', g₁, rfl, he⟩ := first_event h
  · exact .inl rfl
  · cases he with
    | xfer tx st rx => exact .inr (.inl ⟨tx, st, rx, tr', rfl⟩)
    | reset => exact .inr (.inr ⟨tr', rfl⟩)

theorem begins_after_moved {tr : List BusEvent} {g : BusStage} (h : busStageFrom .moved tr = some g) :
    tr = [] ∨ (∃ tr', tr = .csWrite false :: tr') ∨ ∃ tr', tr = .reset :: tr' := by
  obtain rfl | ⟨e, tr', g₁, rfl, he⟩ := first_event h
  · exact .inl rfl
  · cases he with
    | deassert => exact .inr (.inl ⟨tr', rfl⟩)
    | reset => exact .inr (.inr ⟨tr', rfl⟩)

/-- Settles O52: the stage before an event says what comes right before it, the stage after it what comes right after. -/
theorem chipSelectContract : Obligations.ChipSelectContract := by
  intro s h
  refine ⟨fun pre tx st rx post hbus => ?_, fun pre post hbus => ?_, fun hidle => ?_⟩
  · obtain ⟨g₁, g₂, hpre, he, hpost⟩ := stages_around (hbus ▸ h.trace_brackets)
    cases he
    exact ⟨ends_asserted hpre, begins_after_moved hpost⟩
  · obtain ⟨g₁, g₂, hpre, he, hpost⟩ := stages_around (hbus ▸ h.trace_brackets)
    cases he
    exact ⟨ends_released hpre, begins_after_asserted hpost⟩
  · rw [h.cs_follows_phase, hidle]
    rfl

end Sys2Proof.Machine

/-! SUPPORT. The register operations (41_transaction.md R130 to R132) and the operations whose transfer is not answered
(R126). -/

namespace Sys2Proof.Machine

/-! ### Register operations -/

/-- Settles O26. -/
theorem readRegOutcome : Obligations.ReadRegOutcome := by
  refine ⟨fun r => ?_, fun s r a rest ha => ⟨fun hs => ?_, fun hs => ?_⟩⟩
  · rw [encode, requestWord_toNat]
    simp
  · simp only [exec, execReadReg, transaction_received _ _ _ _ _ s a rest ha hs, txBytes_three]
    rfl
  · simp only [exec, execReadReg, transaction_failed _ _ _ _ _ s a rest ha hs, txBytes_three]
    rfl

/-- Settles O27. -/
theorem writeRegOutcome : Obligations.WriteRegOutcome := by
  refine ⟨fun r d => ?_, fun s r d a rest ha => ⟨fun hs => ?_, fun hs => ?_⟩⟩
  · rw [encode, requestWord_toNat]
    simp
  · simp only [exec, execWriteReg, transaction_received _ _ _ _ _ s a rest ha hs, txBytes_three]
    rfl
  · simp only [exec, execWriteReg, transaction_failed _ _ _ _ _ s a rest ha hs, txBytes_three]
    rfl

/-- An answered READ_REG sends FRAME.DATA as it stands, whatever the answer. -/
theorem exec_readReg_sends {s : State} {a : Answer} {rest : List Answer} (h : s.answers = a :: rest) (r : Byte) :
    ∃ (t : State) (st : Word) (rx : List Byte), exec (.readReg r) s = .next t ∧
      t.bus = s.bus ++ bracketEvents (readTx s r) st rx := by
  obtain ⟨-, houtcome⟩ := readRegOutcome
  obtain ⟨hok, hfail⟩ := houtcome s r a rest h
  by_cases hs : s.params.portStatus a.status = 0
  · exact ⟨_, _, _, hok hs, rfl⟩
  · exact ⟨_, _, _, hfail hs, rfl⟩

/-- An answered WRITE_REG leaves its byte in FRAME.DATA, whatever the answer. -/
theorem exec_writeReg_sends {s : State} {a : Answer} {rest : List Answer} (h : s.answers = a :: rest) (r d : Byte) :
    ∃ (t : State) (st : Word) (rx : List Byte), exec (.writeReg r d) s = .next t ∧
      t.bus = s.bus ++ bracketEvents [commandByte s.params.cmdWrite, r, d] st rx ∧
      t.frame.data = d ∧ t.params = s.params ∧ t.answers = rest := by
  obtain ⟨-, houtcome⟩ := writeRegOutcome
  obtain ⟨hok, hfail⟩ := houtcome s r d a rest h
  by_cases hs : s.params.portStatus a.status = 0
  · exact ⟨_, _, _, hok hs, rfl, rfl, rfl, rfl⟩
  · exact ⟨_, _, _, hfail hs, rfl, rfl, rfl, rfl⟩

/-- Settles O28. -/
theorem readSendsKeptData : Obligations.ReadSendsKeptData := by
  intro s r1 d1 r2 a b rest h
  obtain ⟨t, st, rx, ht, hbus, hdata, hparams, hanswers⟩ := exec_writeReg_sends h r1 d1
  obtain ⟨u, st', rx', hu, hbus'⟩ := exec_readReg_sends hanswers r2
  refine ⟨u, st, st', rx, rx', ?_, ?_⟩
  · rw [execAll_cons ht, execAll_cons hu, execAll]
  · rw [hbus', hbus, readTx, hdata, hparams]

/-! ### Operations left waiting -/

theorem txBytes_burst (c : Bool) (f : Frame) (cmd : Nibble) (reg : Byte) (d : DataArg) :
    txBytes (burstLength c) (f.composed cmd reg d) =
      [commandByte cmd, reg, 0, 0, 0] ++ if c then [0] else [] := by
  cases c with
  | false => exact txBytes_five f cmd reg d
  | true => exact txBytes_six f cmd reg d

theorem subReadRegs_eq (s : State) :
    subReadRegs s = discreteRegs s.params s.crcEn ++ if s.crcEn then [] else [s.params.regCrc] := by
  cases hc : s.crcEn <;> simp [subReadRegs, discreteRegs]

/-- What sub-reads show of FRAME depends on the state through the parameters, FRAME.DATA and FRAME.TRAIL alone. -/
theorem subReadViews_congr {s t : State} (hp : t.params = s.params) (hd : t.frame.data = s.frame.data)
    (ht : t.frame.trail = s.frame.trail) (prev : Frame) (regs : List Byte) (as : List Answer) :
    subReadViews t prev regs as = subReadViews s prev regs as := by
  induction regs generalizing prev as with
  | nil => simp [subReadViews]
  | cons r regs ih => cases as <;> simp [subReadViews, ih, keptFrame, hp, hd, ht]

theorem subReadRxb_cons {s t : State} {a : Answer} (h : t.rxb = [a.rx0, a.rx1, a.rx2]) (as : List Answer) :
    subReadRxb s (a :: as) = subReadRxb t as := by
  cases as with
  | nil => exact h.symm
  | cons b as =>
    simp only [subReadRxb, List.getLast?_cons_cons, List.getLast?_eq_some_getLast (List.cons_ne_nil b as)]

/-- `s` when sub-read `k`, of the register `reg`, has been answered by `a`, with status 0 (R153). -/
def subReadDone (s : State) (k : Nat) (reg : Byte) (a : Answer) (rest : List Answer) : State :=
  { transacted s (keptFrame s s.params.cmdRead reg) (readTx s reg) 0 [a.rx0, a.rx1, a.rx2] rest with
    idx := k
    layout := s.layout.put k a.rx2
    phase := .bus .angleDiscrete .xfer
    held := s.held ++ [⟨s.frame, false⟩, ⟨keptFrame s s.params.cmdRead reg, false⟩,
      ⟨keptFrame s s.params.cmdRead reg, true⟩, ⟨keptFrame s s.params.cmdRead reg, false⟩] }

/-- `s` when sub-reads from number `k` on, of the registers `regs`, have been answered by `good` and the next one, of `reg`,
is offered and not answered (R126, R153). -/
def subReadsWaiting (s : State) (k : Nat) (regs : List Byte) (good : List Answer) (reg : Byte) : State :=
  { s with
    frame := keptFrame s s.params.cmdRead reg
    cs := true
    phase := .bus .angleDiscrete .xfer
    txb := readTx s reg
    rxb := subReadRxb s good
    xst := if good = [] then s.xst else 0
    idx := k + good.length
    layout := subReadLayout s.layout k good
    answers := []
    bus := s.bus ++ subReadEvents s regs good ++ [.csWrite false, .csWrite true]
    held := s.held ++ subReadViews s s.frame regs good }

theorem subReadsWaiting_nil {s : State} (h : s.answers = []) (k : Nat) (r : Byte) (regs : List Byte) :
    subReadsWaiting s k (r :: regs) [] r =
      { waiting s .angleDiscrete (keptFrame s s.params.cmdRead r) (readTx s r) with idx := k } := by
  simp [subReadsWaiting, waiting, subReadEvents, subReadViews, subReadRxb, subReadLayout, h]

theorem subReadsWaiting_cons {s : State} {a : Answer} (ha : s.params.portStatus a.status = 0) (k : Nat) (r : Byte)
    (regs : List Byte) (good : List Answer) (reg : Byte) :
    subReadsWaiting s k (r :: regs) (a :: good) reg =
      subReadsWaiting (subReadDone s k r a good) (k + 1) regs good reg := by
  have hidx : k + (a :: good).length = k + 1 + good.length := by rw [List.length_cons]; omega
  have hrxb : subReadRxb s (a :: good) = subReadRxb (subReadDone s k r a good) good := subReadRxb_cons rfl good
  have hxst : (if good = [] then (0 : Word) else 0) = 0 := ite_self 0
  have hbus : s.bus ++ subReadEvents s (r :: regs) (a :: good) =
      (subReadDone s k r a good).bus ++ subReadEvents (subReadDone s k r a good) regs good := by
    rw [subReadEvents, ha, subReadEvents_congr s (subReadDone s k r a good) rfl rfl, ← List.append_assoc]
    rfl
  have hheld : s.held ++ subReadViews s s.frame (r :: regs) (a :: good) =
      (subReadDone s k r a good).held ++
        subReadViews (subReadDone s k r a good) (subReadDone s k r a good).frame regs good := by
    rw [subReadViews, subReadViews_congr (s := s) (t := subReadDone s k r a good) rfl rfl rfl, ← List.append_assoc]
    rfl
  simp only [subReadsWaiting, hidx, hrxb, hbus, hheld, List.cons_ne_nil, if_false]
  simp only [subReadDone, transacted, hxst]
  rfl

/-- `more` are registers that the loop does not come to. -/
theorem subReads_wait {regs : List Byte} (more : List Byte) {good : List Answer} {reg : Byte} (k : Nat) {s : State}
    (h : s.answers = good) (hgood : ∀ a ∈ good, s.params.portStatus a.status = 0)
    (hreg : regs[good.length]? = some reg) :
    subReads k regs s = .stopped (subReadsWaiting s k (regs ++ more) good reg) := by
  induction good generalizing regs k s with
  | nil =>
    obtain _ | ⟨r, regs⟩ := regs
    · cases hreg
    · obtain rfl : r = reg := Option.some.inj hreg
      rw [subReads_unanswered k r regs s h, List.cons_append, subReadsWaiting_nil h]
  | cons a good ih =>
    obtain _ | ⟨r, regs⟩ := regs
    · cases hreg
    · obtain ⟨ha, hgood⟩ := List.forall_mem_cons.mp hgood
      rw [List.cons_append, subReadsWaiting_cons ha]
      exact (subReads_received k r regs s a good h ha).trans
        (ih (k + 1) (s := subReadDone s k r a good) rfl hgood (by simpa using hreg))

/-- Settles O29. -/
theorem unansweredTransferWaits : Obligations.UnansweredTransferWaits := by
  refine ⟨fun s h => ⟨fun r => ?_, fun r d => ?_, ?_, ?_, ?_⟩, fun s good reg h hlen hgood hreg => ?_⟩
  · simp only [exec, execReadReg, transaction_unanswered _ _ _ _ _ s h, txBytes_three]
    rfl
  · simp only [exec, execWriteReg, transaction_unanswered _ _ _ _ _ s h, txBytes_three]
    rfl
  · simp only [exec, execAngleBurst, transaction_unanswered _ _ _ _ _ s h, txBytes_burst]
    rfl
  · simp only [exec, execAutoZero, transaction_unanswered _ _ _ _ _ s h, txBytes_three]
    rfl
  · simp only [exec, execProgEeprom, transaction_unanswered _ _ _ _ _ s h, txBytes_three]
    rfl
  · rw [← discreteRegs_length s.params] at hlen
    rw [subReadRegs_eq, List.getElem?_append_left hlen] at hreg
    simp only [exec, execAngleDiscrete, subReads_wait (if s.crcEn then [] else [s.params.regCrc]) 0 h hgood hreg,
      ← subReadRegs_eq, Bracket.andThen, subReadsWaiting, Nat.zero_add]

end Sys2Proof.Machine

/-! SUPPORT. The reassembly of the angle (42_angle.md R151): its three bytes put one after another. -/

namespace Sys2Proof.Machine

/-- The raw angle is L0, L1 and L2[7:3] side by side. -/
theorem assemble_eq_append (l0 l1 l2 : Byte) : assemble l0 l1 l2 = l0 ++ (l1 ++ l2.extractLsb' 3 5) := by
  apply BitVec.eq_of_getLsbD_eq
  intro i hi
  -- with the width of the right side written as a sum, as the rule for `++` needs it
  change (assemble l0 l1 l2).getLsbD i = BitVec.getLsbD (l0 ++ (l1 ++ l2.extractLsb' 3 5)) i
  rw [BitVec.getLsbD_append, BitVec.getLsbD_append]
  interval_cases i <;> simp [assemble]

/-- L2 is L2[7:3] above the warnings. -/
theorem layoutByte2_eq_append (l2 : Byte) : l2 = l2.extractLsb' 3 5 ++ warnOf l2 := by
  rw [warnOf, BitVec.extractLsb'_append_extractLsb'_eq_extractLsb' (by rfl)]
  exact BitVec.extractLsb'_eq_self.symm

/-- A raw angle is its three fields side by side. -/
theorem rawAngle_eq_append (r : RawAngle) : r = r.extractLsb' 13 8 ++ (r.extractLsb' 5 8 ++ r.extractLsb' 0 5) := by
  rw [BitVec.extractLsb'_append_extractLsb'_eq_extractLsb' (by rfl),
    BitVec.extractLsb'_append_extractLsb'_eq_extractLsb' (by rfl)]
  exact BitVec.extractLsb'_eq_self.symm

theorem assemble_fields (l0 l1 l2 : Byte) :
    (assemble l0 l1 l2).extractLsb' 13 8 = l0 ∧ (assemble l0 l1 l2).extractLsb' 5 8 = l1 ∧
    (assemble l0 l1 l2).extractLsb' 0 5 = l2.extractLsb' 3 5 := by
  rw [assemble_eq_append]
  refine ⟨BitVec.extractLsb'_append_eq_left, ?_, ?_⟩
  · exact (BitVec.extractLsb'_append_eq_of_add_le (by decide)).trans BitVec.extractLsb'_append_eq_left
  · exact (BitVec.extractLsb'_append_eq_of_add_le (by decide)).trans BitVec.extractLsb'_append_eq_right

/-- Settles O32. The inverse puts L2 together from raw[4:0] and the warnings. -/
theorem reassemblyIsBijection : Obligations.ReassemblyIsBijection := by
  refine ⟨fun l0 l1 l2 => ?_, fun r w => ?_⟩
  · obtain ⟨h0, h1, h2⟩ := assemble_fields l0 l1 l2
    have hnat : l2.toNat = (l2.extractLsb' 3 5).toNat * 8 + (warnOf l2).toNat := by
      conv_lhs => rw [layoutByte2_eq_append l2, BitVec.toNat_append,
        ← Nat.shiftLeft_add_eq_or_of_lt (warnOf l2).isLt, Nat.shiftLeft_eq]
    exact ⟨h0, h1, h2, rfl, h2.symm ▸ hnat⟩
  · have hhigh : (r.extractLsb' 0 5 ++ w).extractLsb' 3 5 = r.extractLsb' 0 5 := BitVec.extractLsb'_append_eq_left
    have hlow : (r.extractLsb' 0 5 ++ w).extractLsb' 0 3 = w := BitVec.extractLsb'_append_eq_right
    refine ⟨r.extractLsb' 0 5 ++ w, hhigh, hlow, ?_, hlow⟩
    rw [assemble_eq_append, hhigh, ← rawAngle_eq_append]

end Sys2Proof.Machine

/-! SUPPORT. The angle operations (42_angle.md R152 to R155) on every answered transfer. -/

namespace Sys2Proof.Machine

theorem crcCheck_eq_true {l : Layout} : crcCheck l = true ↔ crc8 [l.l0, l.l1, l.l2] = l.l3 :=
  beq_iff_eq

theorem crcCheck_eq_false {l : Layout} : crcCheck l = false ↔ crc8 [l.l0, l.l1, l.l2] ≠ l.l3 :=
  beq_eq_false_iff_ne

/-- Post-processing does not read PHASE, nor what FRAME and CS have held. -/
theorem postProcess_finish (s : State) : postProcess (finish s) = postProcess s := by
  simp only [postProcess, finish_crcEn, finish_layout]
  rfl

/-! ### ANGLE_BURST (R154) -/

theorem burst_tx_length (c : Bool) (cmd : Nibble) (reg : Byte) :
    ([commandByte cmd, reg, 0, 0, 0] ++ if c then [0] else []).length = burstLength c := by
  cases c <;> rfl

theorem exec_angleBurst_failed {s : State} {a : Answer} {rest : List Answer} (h : s.answers = a :: rest)
    (hs : s.params.portStatus a.status ≠ 0) :
    exec .angleBurst s = .next
      { transacted s (keptFrame s s.params.cmdBurst s.params.regAngleH)
          ([commandByte s.params.cmdBurst, s.params.regAngleH, 0, 0, 0] ++ if s.crcEn then [0] else [])
          (s.params.portStatus a.status) (a.bytes (burstLength s.crcEn)) rest with
        kind := 6, xferCode := s.params.portStatus a.status } := by
  simp only [exec, execAngleBurst, transaction_failed _ _ _ _ _ s a rest h hs, txBytes_burst, burst_tx_length,
    Bracket.andThen]
  rfl

/-- `s` when the combined transaction has been answered by `a`, with status 0, and L written. PHASE and what FRAME and
CS have held are as the end of the operation leaves them. -/
def burstDone (s : State) (a : Answer) (rest : List Answer) : State :=
  { transacted s (keptFrame s s.params.cmdBurst s.params.regAngleH)
      ([commandByte s.params.cmdBurst, s.params.regAngleH, 0, 0, 0] ++ if s.crcEn then [0] else []) 0
      (a.bytes (burstLength s.crcEn)) rest with
    layout := s.layout.ofBurst s.crcEn (a.bytes (burstLength s.crcEn)) }

theorem exec_angleBurst_done {s : State} {a : Answer} {rest : List Answer} (h : s.answers = a :: rest)
    (hs : s.params.portStatus a.status = 0) : exec .angleBurst s = .next (postProcess (burstDone s a rest)) := by
  rw [← postProcess_finish]
  simp only [exec, execAngleBurst, transaction_received _ _ _ _ _ s a rest h hs, txBytes_burst, burst_tx_length,
    Bracket.andThen]
  rw [← postProcess_finish]
  rfl

theorem burstDone_layout {s : State} (a : Answer) (rest : List Answer) :
    (burstDone s a rest).layout = ⟨a.rx2, a.rx3, a.rx4, if s.crcEn then a.rx5 else s.layout.l3⟩ := by
  cases hc : s.crcEn <;> simp [burstDone, hc, burstLength, Answer.bytes, Layout.ofBurst, byteAt]

/-- Settles O33. -/
theorem angleBurstOutcome : Obligations.AngleBurstOutcome := by
  refine ⟨by decide, fun s a rest h => ⟨exec_angleBurst_failed h, fun hs hcrc => ?_, fun hs hcrc hm => ?_,
    fun hs hcrc hm => ?_⟩⟩
  · rw [exec_angleBurst_done h hs, postProcess_without_crc (burstDone s a rest) hcrc]
    simp only [burstDone, hcrc]
    rfl
  · have hcheck : crcCheck (burstDone s a rest).layout = true := by
      rw [burstDone_layout, hcrc]; exact crcCheck_eq_true.mpr hm
    rw [exec_angleBurst_done h hs, postProcess_match (burstDone s a rest) hcrc hcheck]
    simp only [burstDone, hcrc]
    rfl
  · have hcheck : crcCheck (burstDone s a rest).layout = false := by
      rw [burstDone_layout, hcrc]; exact crcCheck_eq_false.mpr hm
    rw [exec_angleBurst_done h hs, postProcess_mismatch (burstDone s a rest) hcrc hcheck]
    simp only [burstDone, hcrc]
    rfl

/-! ### ANGLE_DISCRETE (R153) -/

/-- `s` when sub-reads from number `k` on have been answered by `good` with status 0, and the next one, of `reg`, by
`a`, with any status; the byte of `a` is not stored yet. `regs` are the registers read. PHASE and what FRAME and CS have
held are as the end of the operation leaves them. -/
def subReadsAnswered (s : State) (k : Nat) (regs : List Byte) (good : List Answer) (reg : Byte) (a : Answer)
    (rest : List Answer) : State :=
  { s with
    frame := keptFrame s s.params.cmdRead reg
    cs := false
    phase := .idle
    txb := readTx s reg
    rxb := [a.rx0, a.rx1, a.rx2]
    xst := s.params.portStatus a.status
    idx := k + good.length
    layout := subReadLayout s.layout k good
    answers := rest
    bus := s.bus ++ subReadEvents s regs (good ++ [a])
    held := [] }

theorem subReadsAnswered_nil (s : State) (k : Nat) (reg : Byte) (regs : List Byte) (a : Answer) (rest : List Answer) :
    subReadsAnswered s k (reg :: regs) [] reg a rest =
      { transacted s (keptFrame s s.params.cmdRead reg) (readTx s reg) (s.params.portStatus a.status)
          [a.rx0, a.rx1, a.rx2] rest with idx := k } := by
  simp [subReadsAnswered, transacted, subReadEvents, subReadLayout]

theorem subReadsAnswered_cons {s : State} {b : Answer} (hb : s.params.portStatus b.status = 0) (k : Nat) (r : Byte)
    (regs : List Byte) (good : List Answer) (reg : Byte) (a : Answer) (rest more : List Answer) :
    subReadsAnswered s k (r :: regs) (b :: good) reg a rest =
      subReadsAnswered (subReadDone s k r b more) (k + 1) regs good reg a rest := by
  have hidx : k + (b :: good).length = k + 1 + good.length := by rw [List.length_cons]; omega
  have hbus : s.bus ++ subReadEvents s (r :: regs) (b :: good ++ [a]) =
      (subReadDone s k r b more).bus ++ subReadEvents (subReadDone s k r b more) regs (good ++ [a]) := by
    rw [List.cons_append, subReadEvents, hb, subReadEvents_congr s (subReadDone s k r b more) rfl rfl,
      ← List.append_assoc]
    rfl
  simp only [subReadsAnswered, hidx, hbus]
  rfl

/-- The loop comes to the sub-read after the ones answered by `good`, in a state `t` from which its answer leads where
the whole loop leads from `s`. `more` are registers that the loop does not come to. -/
theorem subReads_come_to {regs : List Byte} (more : List Byte) {good : List Answer} {reg : Byte} {a : Answer}
    {rest : List Answer} (k : Nat) {s : State} (h : s.answers = good ++ a :: rest)
    (hgood : ∀ b ∈ good, s.params.portStatus b.status = 0) (hreg : regs[good.length]? = some reg) :
    ∃ t : State, subReads k regs s = subReads (k + good.length) (reg :: regs.drop (good.length + 1)) t ∧
      t.answers = a :: rest ∧ t.params = s.params ∧
      subReadsAnswered s k (regs ++ more) good reg a rest =
        subReadsAnswered t (k + good.length) [reg] [] reg a rest := by
  induction good generalizing regs k s with
  | nil =>
    obtain _ | ⟨r, regs⟩ := regs
    · cases hreg
    · obtain rfl : r = reg := Option.some.inj hreg
      exact ⟨s, rfl, h, rfl, by rw [List.cons_append, subReadsAnswered_nil, subReadsAnswered_nil]; rfl⟩
  | cons b good ih =>
    obtain _ | ⟨r, regs⟩ := regs
    · cases hreg
    · obtain ⟨hb, hgood⟩ := List.forall_mem_cons.mp hgood
      have hlen : k + (b :: good).length = k + 1 + good.length := by rw [List.length_cons]; omega
      rw [List.cons_append, subReadsAnswered_cons hb k r (regs ++ more) good reg a rest (good ++ a :: rest),
        hlen]
      obtain ⟨t, ht, hanswers, hparams, heq⟩ :=
        ih (k + 1) (s := subReadDone s k r b (good ++ a :: rest)) rfl hgood (by simpa using hreg)
      exact ⟨t, (subReads_received k r regs s b (good ++ a :: rest) h hb).trans ht, hanswers, hparams, heq⟩

theorem discreteRegs_getElem? {s : State} {k : Nat} {reg : Byte} (hlen : k < if s.crcEn then 4 else 3)
    (hreg : (subReadRegs s)[k]? = some reg) : (discreteRegs s.params s.crcEn)[k]? = some reg := by
  rw [← discreteRegs_length s.params] at hlen
  rwa [subReadRegs_eq, List.getElem?_append_left hlen] at hreg

theorem exec_angleDiscrete_failed {s : State} {good : List Answer} {reg : Byte} {a : Answer} {rest : List Answer}
    (h : s.answers = good ++ a :: rest) (hlen : good.length < if s.crcEn then 4 else 3)
    (hgood : ∀ b ∈ good, s.params.portStatus b.status = 0) (ha : s.params.portStatus a.status ≠ 0)
    (hreg : (subReadRegs s)[good.length]? = some reg) :
    exec .angleDiscrete s = .next
      (raise .transport (s.params.portStatus a.status) (subReadsAnswered s 0 (subReadRegs s) good reg a rest)) := by
  obtain ⟨t, ht, hanswers, hparams, heq⟩ :=
    subReads_come_to (if s.crcEn then [] else [s.params.regCrc]) 0 h hgood (discreteRegs_getElem? hlen hreg)
  rw [subReads_failed _ _ _ t a rest hanswers (hparams ▸ ha), Nat.zero_add] at ht
  rw [subReadRegs_eq, heq, subReadsAnswered_nil, ← hparams]
  simp only [exec, execAngleDiscrete, ht, Bracket.andThen, Nat.zero_add]
  rfl

theorem exec_angleDiscrete_answered {s : State} {good : List Answer} {reg : Byte} {a : Answer} {rest : List Answer}
    (h : s.answers = good ++ a :: rest) (hlen : good.length + 1 = if s.crcEn then 4 else 3)
    (hgood : ∀ b ∈ good, s.params.portStatus b.status = 0) (ha : s.params.portStatus a.status = 0)
    (hreg : (subReadRegs s)[good.length]? = some reg) :
    exec .angleDiscrete s = .next (postProcess (storeLayout good.length [a.rx0, a.rx1, a.rx2]
      (subReadsAnswered s 0 (subReadRegs s) good reg a rest))) := by
  obtain ⟨t, ht, hanswers, hparams, heq⟩ :=
    subReads_come_to (if s.crcEn then [] else [s.params.regCrc]) 0 h hgood
      (discreteRegs_getElem? (hlen ▸ Nat.lt_succ_self _) hreg)
  rw [← discreteRegs_length s.params] at hlen
  rw [List.drop_eq_nil_of_le (Nat.le_of_eq hlen.symm), subReads_received _ _ _ t a rest hanswers (hparams ▸ ha),
    Nat.zero_add] at ht
  simp only [exec, execAngleDiscrete, ht, subReads, Bracket.andThen]
  rw [subReadRegs_eq, heq, subReadsAnswered_nil, hparams, ha, Nat.zero_add, ← postProcess_finish]
  rfl

/-- Settles O34. -/
theorem angleDiscreteWithoutCrc : Obligations.AngleDiscreteWithoutCrc := by
  intro s a b c rest hcrc h ha hb hc
  rw [exec_angleDiscrete_answered (good := [a, b]) h (by simp [hcrc]) (by simp [ha, hb]) hc rfl,
    postProcess_without_crc]
  · simp only [subReadsAnswered, subReadEvents, subReadRegs, ha, hb, hc, List.cons_append, List.nil_append,
      List.append_nil, List.append_assoc]
    rfl
  · exact hcrc

/-- Settles O35. -/
theorem angleDiscreteWithCrc : Obligations.AngleDiscreteWithCrc := by
  intro s a b c d rest hcrc h ha hb hc hd
  rw [exec_angleDiscrete_answered (good := [a, b, c]) h (by simp [hcrc]) (by simp [ha, hb, hc]) hd rfl]
  refine ⟨storeLayout 3 [d.rx0, d.rx1, d.rx2]
    (subReadsAnswered s 0 (subReadRegs s) [a, b, c] s.params.regCrc d rest), ?_, fun hm => ?_, fun hm => ?_⟩
  · simp only [subReadsAnswered, subReadEvents, subReadRegs, ha, hb, hc, hd, List.cons_append, List.nil_append,
      List.append_nil, List.append_assoc]
    rfl
  · rw [postProcess_match]
    · rfl
    · exact hcrc
    · exact crcCheck_eq_true.mpr hm
  · rw [postProcess_mismatch]
    · rfl
    · exact hcrc
    · exact crcCheck_eq_false.mpr hm

/-- Settles O36. -/
theorem angleDiscreteStopsAtFailure : Obligations.AngleDiscreteStopsAtFailure := by
  intro s good bad rest reg h hlen hgood hbad hreg
  rw [exec_angleDiscrete_failed h hlen hgood hbad hreg, subReadsAnswered, Nat.zero_add]
  rfl

/-! ### The two strategies (R155) -/

theorem subReadLayout_concat (l : Layout) (k : Nat) (good : List Answer) (a : Answer) :
    subReadLayout l k (good ++ [a]) = (subReadLayout l k good).put (k + good.length) a.rx2 := by
  induction good generalizing l k with
  | nil => rfl
  | cons b good ih =>
    rw [List.cons_append, subReadLayout, ih, subReadLayout, List.length_cons, Nat.add_right_comm, Nat.add_assoc]

/-- The sub-reads bring the same telemetry to L as the combined transaction. -/
theorem subReadLayout_eq_burst {l : Layout} {c : Bool} {ds : List Answer} {b : Answer}
    (hlen : ds.length = if c then 4 else 3)
    (h : ds.map (·.rx2) = [b.rx2, b.rx3, b.rx4] ++ if c then [b.rx5] else []) :
    subReadLayout l 0 ds = ⟨b.rx2, b.rx3, b.rx4, if c then b.rx5 else l.l3⟩ := by
  match c, ds, hlen with
  | false, [x, y, z], _ => simpa [subReadLayout, Layout.put] using h
  | true, [x, y, z, w], _ => simpa [subReadLayout, Layout.put] using h

theorem subReadEvents_length {s : State} {regs : List Byte} {as : List Answer} (h : as.length ≤ regs.length) :
    (subReadEvents s regs as).length = 4 * as.length := by
  induction as generalizing regs with
  | nil => cases regs <;> rfl
  | cons a as ih =>
    obtain _ | ⟨reg, regs⟩ := regs
    · cases h
    · have hrest := ih (Nat.le_of_succ_le_succ h)
      simp only [subReadEvents, bracketEvents, List.length_append, hrest, List.length_cons, List.length_nil]
      omega

/-- The results of post-processing are a function of CRC_EN, L and the results before it. -/
theorem postProcess_results_congr {s t : State} (hcrc : s.crcEn = t.crcEn) (hlayout : s.layout = t.layout)
    (hraw : s.rawAngle = t.rawAngle) (hwarn : s.warn = t.warn) (hok : s.crcOk = t.crcOk) :
    (postProcess s).kind = (postProcess t).kind ∧ (postProcess s).rawAngle = (postProcess t).rawAngle ∧
    (postProcess s).warn = (postProcess t).warn ∧ (postProcess s).crcOk = (postProcess t).crcOk := by
  simp only [postProcess, hcrc, hlayout]
  split
  · split
    · simp
    · simp [hraw, hwarn]
  · simp [hlayout, hok]

/-- What ANGLE_DISCRETE brings to post-processing when every sub-read succeeds. -/
theorem exec_angleDiscrete_brings {s : State} {ds rest : List Answer} (h : s.answers = ds ++ rest)
    (hlen : ds.length = if s.crcEn then 4 else 3) (hds : ∀ a ∈ ds, s.params.portStatus a.status = 0) :
    ∃ t : State, exec .angleDiscrete s = .next (postProcess t) ∧ t.layout = subReadLayout s.layout 0 ds ∧
      t.crcEn = s.crcEn ∧ t.rawAngle = s.rawAngle ∧ t.warn = s.warn ∧ t.crcOk = s.crcOk ∧
      t.frame.cmd = s.params.cmdRead ∧ t.bus.length = s.bus.length + 4 * ds.length := by
  have hbounds : 1 ≤ ds.length ∧ ds.length ≤ (subReadRegs s).length := by
    simp only [hlen, subReadRegs, List.length_cons, List.length_nil]
    split <;> decide
  obtain ⟨good, a, rfl⟩ := (List.eq_nil_or_concat' ds).resolve_left (List.ne_nil_of_length_pos hbounds.1)
  have hgood := fun x hx => hds x (List.mem_append_left [a] hx)
  have hreg : good.length < (subReadRegs s).length := by simpa using hbounds.2
  refine ⟨_, exec_angleDiscrete_answered (by simpa using h) (by simpa using hlen) hgood (hds a (by simp))
    (List.getElem?_eq_getElem hreg), ?_, rfl, rfl, rfl, rfl, rfl, ?_⟩
  · rw [subReadLayout_concat, Nat.zero_add]
    rfl
  · rw [storeLayout_bus, subReadsAnswered, List.length_append, subReadEvents_length hbounds.2]

/-- Settles O37. Both strategies post-process the same L. -/
theorem strategiesAgree : Obligations.StrategiesAgree := by
  intro s ds rest rest' b hlen hmap hds hb
  obtain ⟨p, hp, hlayout, hcrc, hraw, hwarn, hok, hcmd, hbus⟩ :=
    exec_angleDiscrete_brings (s := { s with answers := ds ++ rest }) rfl hlen hds
  have hburst := exec_angleBurst_done (s := { s with answers := b :: rest' }) rfl hb
  obtain ⟨hkind, hraw, hwarn, hok⟩ :=
    postProcess_results_congr (t := burstDone { s with answers := b :: rest' } b rest') hcrc
      (by rw [hlayout, burstDone_layout, subReadLayout_eq_burst hlen hmap]) hraw hwarn hok
  refine ⟨_, _, hp, hburst, hkind, hraw, hwarn, hok, ?_, ?_, ?_, ?_⟩
  · rw [postProcess_frame, hcmd]
  · rw [postProcess_frame]
    rfl
  · rw [postProcess_bus, hbus, hlen]
    split <;> rfl
  · rw [postProcess_bus]
    exact List.length_append

end Sys2Proof.Machine

/-! SUPPORT. The acknowledged commands (43_commands.md R170 to R172): one transaction, judged by `AckCheck`. -/

namespace Sys2Proof.Machine

/-! ### AckCheck (R172) -/

theorem ackCheck_acknowledged {rx : List Byte} (s : State) (h : byteAt rx 2 = Config.ack) :
    ackCheck rx s = complete s :=
  if_pos h

theorem ackCheck_not_acknowledged {rx : List Byte} (s : State) (h : byteAt rx 2 ≠ Config.ack) :
    ackCheck rx s = raise .error 0 s :=
  if_neg h

/-! ### A command and its acknowledgement -/

/-- `s` with the transaction of an acknowledged command `cmd` behind it, answered by `a`: all that R170 and R171 let it
change, but for the result. -/
def commandDone (s : State) (cmd : Nibble) (a : Answer) (rest : List Answer) : State :=
  transacted s (putFrame s cmd s.params.regCmdAck 0x00) [commandByte cmd, s.params.regCmdAck, 0x00]
    (s.params.portStatus a.status) [a.rx0, a.rx1, a.rx2] rest

/-- An acknowledged command as operation `op` (R170, R171): the two differ in the command they send. -/
def execCommand (op : BusOp) (cmd : Nibble) (s : State) : Host.Outcome State Fault Refusal :=
  (transaction op cmd s.params.regCmdAck (.put 0x00) 3 s).andThen ackCheck

theorem exec_autoZero (s : State) : exec .autoZero s = execCommand .autoZero s.params.cmdAutoZero s := rfl

theorem exec_progEeprom (s : State) : exec .progEeprom s = execCommand .progEeprom s.params.cmdProgEeprom s := rfl

section
variable {s : State} {a : Answer} {rest : List Answer} (op : BusOp) (cmd : Nibble)

theorem execCommand_acknowledged (h : s.answers = a :: rest) (hs : s.params.portStatus a.status = 0)
    (hack : a.rx2 = 0x55) :
    execCommand op cmd s = .next { commandDone s cmd a rest with kind := 0, xferCode := 0 } := by
  have hbyte : byteAt [a.rx0, a.rx1, a.rx2] 2 = Config.ack := hack
  simp only [execCommand, transaction_received _ _ _ _ _ s a rest h hs, txBytes_three, Bracket.andThen, commandDone, hs]
  exact congrArg _ (ackCheck_acknowledged _ hbyte)

theorem execCommand_not_acknowledged (h : s.answers = a :: rest) (hs : s.params.portStatus a.status = 0)
    (hack : a.rx2 ≠ 0x55) :
    execCommand op cmd s = .next { commandDone s cmd a rest with kind := 1, xferCode := 0 } := by
  have hbyte : byteAt [a.rx0, a.rx1, a.rx2] 2 ≠ Config.ack := hack
  simp only [execCommand, transaction_received _ _ _ _ _ s a rest h hs, txBytes_three, Bracket.andThen, commandDone, hs]
  exact congrArg _ (ackCheck_not_acknowledged _ hbyte)

/-- A transport failure comes before the acknowledgement is looked at (R125). -/
theorem execCommand_failed (h : s.answers = a :: rest) (hs : s.params.portStatus a.status ≠ 0) :
    execCommand op cmd s =
      .next { commandDone s cmd a rest with kind := 6, xferCode := s.params.portStatus a.status } := by
  simp only [execCommand, transaction_failed _ _ _ _ _ s a rest h hs, txBytes_three, Bracket.andThen]
  rfl

end

/-! ### AUTO_ZERO and PROG_EEPROM -/

/-- Settles O39. -/
theorem autoZeroOutcome : Obligations.AutoZeroOutcome := by
  refine ⟨by decide, fun s a rest h => ⟨commandDone s s.params.cmdAutoZero a rest, rfl, ?_⟩⟩
  rw [exec_autoZero]
  exact ⟨execCommand_acknowledged _ _ h, execCommand_not_acknowledged _ _ h, execCommand_failed _ _ h⟩

/-- Settles O40. -/
theorem progEepromOutcome : Obligations.ProgEepromOutcome := by
  refine ⟨by decide, fun s a rest h => ⟨commandDone s s.params.cmdProgEeprom a rest, rfl, ?_⟩⟩
  rw [exec_progEeprom]
  exact ⟨execCommand_acknowledged _ _ h, execCommand_not_acknowledged _ _ h, execCommand_failed _ _ h⟩

end Sys2Proof.Machine

/-! SUPPORT. The result codes a step can write (60_exceptions.md R180, R181), and the one read that faults
(93_implementation_defined.md U8). -/

namespace Sys2Proof.Machine

/-! ### An operation that ends writes one of the codes of R180 -/

theorem complete_writes_kind (s : State) : (complete s).kind ∈ writtenKinds := List.mem_cons_self

theorem ackCheck_writes_kind (rx : List Byte) (s : State) : (ackCheck rx s).kind ∈ writtenKinds := by
  by_cases hack : byteAt rx 2 = Config.ack
  · rw [ackCheck_acknowledged s hack]; exact complete_writes_kind s
  · rw [ackCheck_not_acknowledged s hack, raise_kind]; decide

theorem postProcess_writes_kind (s : State) : (postProcess s).kind ∈ writtenKinds := by
  cases hc : s.crcEn with
  | false => rw [postProcess_without_crc s hc]; exact complete_writes_kind _
  | true =>
    cases hm : crcCheck s.layout with
    | true => rw [postProcess_match s hc hm]; exact complete_writes_kind _
    | false => rw [postProcess_mismatch s hc hm, raise_kind]; decide

/-! ### One event, by PHASE (10_state.md R22) -/

/-- From `s` to `t` KIND stays, or a code of R180 that some operation produces (R181) is written to it. -/
def KeepsOrWritesKind (s t : State) : Prop := t.kind = s.kind ∨ t.kind ∈ writtenKinds

theorem beginOp_keepsOrWritesKind (i : Instr) (s : State) : KeepsOrWritesKind s (beginOp i s) := by
  cases i with
  | crcInit => exact .inr (complete_writes_kind _)
  | crcStep d => exact .inr (complete_writes_kind _)
  | readReg r => exact .inl rfl
  | writeReg r d => exact .inl rfl
  | angleDiscrete => exact .inl rfl
  | angleBurst => exact .inl rfl
  | autoZero => exact .inl rfl
  | progEeprom => exact .inl rfl

theorem decodeEvent_keepsOrWritesKind (s : State) : KeepsOrWritesKind s (decodeEvent s) := by
  cases hd : decode s.rq with
  | instr i => rw [decodeEvent_instr hd]; exact beginOp_keepsOrWritesKind i s
  | invalid why => rw [decodeEvent_invalid hd, KeepsOrWritesKind, raise_kind]; exact .inr (by decide)

theorem absorb_keepsOrWritesKind (op : BusOp) (s : State) : KeepsOrWritesKind s (op.absorb s) := by
  cases op with
  | readReg r => exact .inr (complete_writes_kind _)
  | writeReg r d => exact .inr (complete_writes_kind s)
  | angleDiscrete => exact .inl (congrArg Results.kind (nextSubRead_results s))
  | angleBurst => exact .inl rfl
  | autoZero => exact .inr (ackCheck_writes_kind s.rxb s)
  | progEeprom => exact .inr (ackCheck_writes_kind s.rxb s)

theorem busEvent_keepsOrWritesKind (op : BusOp) (point : Point) (s : State) :
    KeepsOrWritesKind s (busEvent op point s) := by
  cases point with
  | release => exact .inl rfl
  | compose => exact .inl rfl
  | assert => exact .inl rfl
  | xfer =>
    cases ha : s.answers with
    | nil => rw [busEvent_xfer_unanswered op ha]; exact .inl rfl
    | cons a rest => rw [busEvent_xfer_answered op ha]; exact .inl rfl
  | deassert => exact .inl rfl
  | judge =>
    by_cases hs : s.xst = 0
    · rw [busEvent_judge_received op hs]; exact absorb_keepsOrWritesKind op s
    · rw [busEvent_judge_failed op hs, KeepsOrWritesKind, raise_kind]; exact .inr (by decide)

theorem advance_keepsOrWritesKind (s : State) : KeepsOrWritesKind s (advance s) := by
  cases hp : s.phase with
  | idle => rw [advance_idle hp]; exact .inl rfl
  | decode => rw [advance_decode hp]; exact decodeEvent_keepsOrWritesKind s
  | bus op point => rw [advance_bus hp]; exact busEvent_keepsOrWritesKind op point s
  | post => rw [advance_post hp]; exact .inr (postProcess_writes_kind s)

theorem advances_keepsOrWritesKind (k : Nat) (s : State) : KeepsOrWritesKind s (advances k s) := by
  induction k generalizing s with
  | zero => exact .inl rfl
  | succ k ih =>
    obtain hkept | hwritten := ih (advance s)
    · obtain hadv | hadv := advance_keepsOrWritesKind s
      · exact .inl (hkept.trans hadv)
      · exact .inr (hkept.symm ▸ hadv)
    · exact .inr hwritten

/-! ### One step, by the act that is next -/

theorem requestLine_keepsOrWritesKind {w : Word} {s t : State} (h : requestLine w s = .next t) :
    KeepsOrWritesKind s t := by
  cases hb : s.busy with
  | true => simp [requestLine, hb] at h
  | false =>
    rw [requestLine_idle hb, eventsReachOperationOutcome] at h
    cases h
    exact advances_keepsOrWritesKind eventBound (latch w s)

theorem issueLine_kind {w : Word} {s t : State} (h : issueLine w s = .next t) : t.kind = s.kind := by
  cases hb : s.busy with
  | true => simp [issueLine, hb] at h
  | false => rw [issueLine_idle hb] at h; cases h; rfl

theorem hostWrite_kind (idx : Nat) (v : Word) (s : State) : (hostWrite idx v s).kind = s.kind := by
  unfold hostWrite
  split
  · split <;> rfl
  · rfl

theorem hostRead_kind {idx : Nat} {s t : State} (h : hostRead idx s = .next t) : t.kind = s.kind := by
  rw [hostRead_keeps h]

theorem waitLine_keepsOrWritesKind (rest : List Input) (s : State) : KeepsOrWritesKind s (waitLine rest s) := by
  unfold waitLine
  split
  · exact advance_keepsOrWritesKind s
  · exact .inl rfl

/-- Reset writes OK (70_reset_and_hazards.md R200); any other act writes KIND through the block's events alone. -/
theorem step_keepsOrWritesKind {s t : State} (h : step s = .next t) : KeepsOrWritesKind s t := by
  cases hin : s.inputs with
  | nil => rw [step_none hin] at h; cases h; exact advance_keepsOrWritesKind s
  | cons i rest =>
    cases i with
    | request w => exact requestLine_keepsOrWritesKind (s := s.awaiting rest) (step_request hin ▸ h)
    | issue w => exact .inl (issueLine_kind (s := s.awaiting rest) (step_issue hin ▸ h))
    | write idx v => rw [step_write hin] at h; cases h; exact .inl (hostWrite_kind idx v (s.awaiting rest))
    | read idx => exact .inl (hostRead_kind (s := s.awaiting rest) (step_read hin ▸ h))
    | event => rw [step_event hin] at h; cases h; exact advance_keepsOrWritesKind (s.awaiting rest)
    | wait => rw [step_wait hin] at h; cases h; exact waitLine_keepsOrWritesKind rest s
    | reset => rw [step_reset hin] at h; cases h; exact .inr List.mem_cons_self
    | pin b => rw [step_pin hin] at h; cases h; exact .inl rfl

theorem writtenKinds_not_reserved : ∀ k ∈ writtenKinds, k ≠ 2 ∧ k ≠ 3 ∧ k ≠ 7 := by decide

/-- Settles O46. -/
theorem neverWritesReservedKinds : Obligations.NeverWritesReservedKinds := by
  intro s t h hne
  exact writtenKinds_not_reserved _ ((step_keepsOrWritesKind h).resolve_left hne)

/-! ### The one fault (log 13) -/

theorem requestLine_ne_fault (w : Word) (s : State) (f : Fault) : requestLine w s ≠ .fault f := by
  cases hb : s.busy with
  | true => simp [requestLine, hb]
  | false => rw [requestLine_idle hb, eventsReachOperationOutcome]; nofun

theorem issueLine_ne_fault (w : Word) (s : State) (f : Fault) : issueLine w s ≠ .fault f := by
  cases hb : s.busy with
  | true => simp [issueLine, hb]
  | false => rw [issueLine_idle hb]; nofun

theorem hostRead_fault {idx : Nat} {s : State} {f : Fault} (h : hostRead idx s = .fault f) :
    idx = 1 ∧ s.kind = 7 := by
  by_contra hne
  rw [hostRead_next fun hidx hkind => hne ⟨hidx, hkind⟩] at h
  cases h

/-- No act faults but a read of STATUS with KIND = 7 (U8). -/
theorem step_fault {s : State} {f : Fault} (h : step s = .fault f) :
    s.kind = 7 ∧ ∃ rest, s.inputs = .read 1 :: rest := by
  cases hin : s.inputs with
  | nil => rw [step_none hin] at h; cases h
  | cons i rest =>
    cases i with
    | request w => exact absurd (step_request hin ▸ h) (requestLine_ne_fault w (s.awaiting rest) f)
    | issue w => exact absurd (step_issue hin ▸ h) (issueLine_ne_fault w (s.awaiting rest) f)
    | read idx =>
      obtain ⟨rfl, hkind⟩ := hostRead_fault (s := s.awaiting rest) (step_read hin ▸ h)
      exact ⟨hkind, rest, rfl⟩
    | write idx v => rw [step_write hin] at h; cases h
    | event => rw [step_event hin] at h; cases h
    | wait => rw [step_wait hin] at h; cases h
    | reset => rw [step_reset hin] at h; cases h
    | pin b => rw [step_pin hin] at h; cases h

/-- Settles O51: the one fault needs KIND = 7, a code no step writes. -/
theorem invariantStatesAreSafe : Obligations.InvariantStatesAreSafe := by
  intro s hinv f hfault
  obtain ⟨hkind, -⟩ := step_fault hfault
  exact (writtenKinds_not_reserved _ hinv.kind_written).2.2 hkind

end Sys2Proof.Machine

/-! SUPPORT. Reset (70_reset_and_hazards.md R200 to R203), the one refusal (R210), and the hang that only reset ends
(R218). What any other step can do is said once, as events of the block. -/

namespace Sys2Proof.Machine

/-! ### Events leave CRC_EN alone (R201), and a hung block as it is (41_transaction.md R126) -/

theorem beginOp_crcEn (i : Instr) (s : State) : (beginOp i s).crcEn = s.crcEn := by
  cases i <;> rfl

theorem decodeEvent_crcEn (s : State) : (decodeEvent s).crcEn = s.crcEn := by
  cases hd : decode s.rq with
  | instr i => rw [decodeEvent_instr hd]; exact beginOp_crcEn i s
  | invalid why => rw [decodeEvent_invalid hd]; rfl

theorem ackCheck_crcEn (rx : List Byte) (s : State) : (ackCheck rx s).crcEn = s.crcEn :=
  ackCheck_leaves State.crcEn (fun _ => rfl) (fun _ _ _ => rfl) rx s

theorem absorb_crcEn (op : BusOp) (s : State) : (op.absorb s).crcEn = s.crcEn := by
  cases op with
  | readReg r => rfl
  | writeReg r d => rfl
  | angleDiscrete => exact congrArg Results.crcEn (nextSubRead_results s)
  | angleBurst => rfl
  | autoZero => exact ackCheck_crcEn s.rxb s
  | progEeprom => exact ackCheck_crcEn s.rxb s

theorem busEvent_crcEn (op : BusOp) (point : Point) (s : State) : (busEvent op point s).crcEn = s.crcEn := by
  cases point with
  | release => rfl
  | compose => rfl
  | assert => rfl
  | xfer =>
    cases ha : s.answers with
    | nil => rw [busEvent_xfer_unanswered op ha]
    | cons a rest => rw [busEvent_xfer_answered op ha]; rfl
  | deassert => rfl
  | judge =>
    by_cases hs : s.xst = 0
    · rw [busEvent_judge_received op hs]; exact absorb_crcEn op s
    · rw [busEvent_judge_failed op hs]; rfl

/-- No event of the block samples `cfg_crc_en` (R201). -/
theorem advance_crcEn (s : State) : (advance s).crcEn = s.crcEn := by
  cases hp : s.phase with
  | idle => rw [advance_idle hp]
  | decode => rw [advance_decode hp]; exact decodeEvent_crcEn s
  | bus op point => rw [advance_bus hp]; exact busEvent_crcEn op point s
  | post => rw [advance_post hp]; exact congrArg Surroundings.crcEn (postProcess_surroundings s)

theorem advances_crcEn (k : Nat) (s : State) : (advances k s).crcEn = s.crcEn := by
  induction k generalizing s with
  | zero => rfl
  | succ k ih => exact (ih (advance s)).trans (advance_crcEn s)

/-- A block that waits for an answer that never comes stays as it is, however many events are due (R126). -/
theorem advances_hung {s : State} {op : BusOp} (hp : s.phase = .bus op .xfer) (ha : s.answers = []) (k : Nat) :
    advances k s = s := by
  have hstays : advance s = s := by rw [advance_bus hp, busEvent_xfer_unanswered op ha]
  exact advances_settled hstays k

/-! ### What a step other than reset can do -/

/-- `s` with what stands outside the block's own work as in `t`: the pin, the acts to come, and the host's reads. -/
def State.withOutside (s t : State) : State :=
  { s with inputs := t.inputs, cfgCrcEn := t.cfgCrcEn, rdata := t.rdata, draws := t.draws }

theorem withOutside_awaiting (s : State) (is : List Input) : s.awaiting is = s.withOutside (s.awaiting is) := rfl

/-- What is outside apart, `t` comes from `s` by events of the block, before them perhaps a request accepted while idle
(10_state.md R24). -/
def FollowsByEvents (s t : State) : Prop :=
  ∃ (u : State) (k : Nat), (u = s ∨ s.busy = false ∧ ∃ w, u = latch w s) ∧ t = (advances k u).withOutside t

theorem followsByEvents_awaiting (k : Nat) (s : State) (is : List Input) :
    FollowsByEvents s (advances k (s.awaiting is)) := by
  refine ⟨s, k, .inl rfl, ?_⟩
  rw [advances_awaiting]
  exact withOutside_awaiting _ is

theorem followsByEvents_latch {s : State} (hb : s.busy = false) (w : Word) (k : Nat) (is : List Input) :
    FollowsByEvents s (advances k (latch w (s.awaiting is))) := by
  refine ⟨latch w s, k, .inr ⟨hb, w, rfl⟩, ?_⟩
  rw [show latch w (s.awaiting is) = (latch w s).awaiting is from rfl, advances_awaiting]
  exact withOutside_awaiting _ is

theorem requestLine_busy {w : Word} {s : State} (h : s.busy = true) : requestLine w s = .refused .reqWhileBusy := by
  simp [requestLine, h]

theorem issueLine_busy {w : Word} {s : State} (h : s.busy = true) : issueLine w s = .refused .reqWhileBusy := by
  simp [issueLine, h]

theorem requestLine_follows {s t : State} {w : Word} {is : List Input}
    (h : requestLine w (s.awaiting is) = .next t) : FollowsByEvents s t := by
  cases hb : s.busy with
  | true => rw [requestLine_busy (s := s.awaiting is) hb] at h; cases h
  | false =>
    rw [requestLine_idle (s := s.awaiting is) hb, eventsReachOperationOutcome] at h
    cases h
    exact followsByEvents_latch hb w eventBound is

theorem issueLine_follows {s t : State} {w : Word} {is : List Input}
    (h : issueLine w (s.awaiting is) = .next t) : FollowsByEvents s t := by
  cases hb : s.busy with
  | true => rw [issueLine_busy (s := s.awaiting is) hb] at h; cases h
  | false =>
    rw [issueLine_idle (s := s.awaiting is) hb] at h
    cases h
    exact followsByEvents_latch hb w 0 is

theorem hostWrite_follows (idx : Nat) (v : Word) (s : State) (is : List Input) :
    FollowsByEvents s (hostWrite idx v (s.awaiting is)) := by
  by_cases hidx : idx = 0
  · subst hidx
    cases hb : s.busy with
    | true => rw [hostWrite_req_busy (s := s.awaiting is) hb]; exact followsByEvents_awaiting 0 s is
    | false => rw [hostWrite_req_idle (s := s.awaiting is) hb]; exact followsByEvents_latch hb v 0 is
  · rw [hostWrite_other hidx]; exact followsByEvents_awaiting 0 s is

theorem hostRead_follows {s t : State} {idx : Nat} {is : List Input} (h : hostRead idx (s.awaiting is) = .next t) :
    FollowsByEvents s t := by
  refine ⟨s, 0, .inl rfl, ?_⟩
  rw [hostRead_keeps h]
  rfl

theorem waitLine_follows (s : State) (rest : List Input) : FollowsByEvents s (waitLine rest s) := by
  unfold waitLine
  split
  · exact followsByEvents_awaiting 1 s s.inputs
  · exact followsByEvents_awaiting 0 s rest

/-- Every step but reset is made of events of the block and changes of what is outside it. -/
theorem step_followsByEvents {s t : State} (h : step s = .next t) (hreset : ∀ rest, s.inputs ≠ .reset :: rest) :
    FollowsByEvents s t := by
  cases hin : s.inputs with
  | nil => rw [step_none hin] at h; cases h; exact followsByEvents_awaiting 1 s s.inputs
  | cons i rest =>
    cases i with
    | request w => exact requestLine_follows (step_request hin ▸ h)
    | issue w => exact issueLine_follows (step_issue hin ▸ h)
    | write idx v => rw [step_write hin] at h; cases h; exact hostWrite_follows idx v s rest
    | read idx => exact hostRead_follows (step_read hin ▸ h)
    | event => rw [step_event hin] at h; cases h; exact followsByEvents_awaiting 1 s rest
    | wait => rw [step_wait hin] at h; cases h; exact waitLine_follows s rest
    | reset => exact absurd hin (hreset rest)
    | pin b => rw [step_pin hin] at h; cases h; exact ⟨s, 0, .inl rfl, rfl⟩

theorem FollowsByEvents.crcEn_eq {s t : State} (h : FollowsByEvents s t) : t.crcEn = s.crcEn := by
  obtain ⟨u, k, hu, ht⟩ := h
  have hus : u.crcEn = s.crcEn := by
    obtain rfl | ⟨-, w, rfl⟩ := hu
    · rfl
    · exact latch_crcEn w s
  rw [ht]
  exact (advances_crcEn k u).trans hus

/-- A hung block accepts no request and performs no event, so only what is outside it changes (R126). -/
theorem FollowsByEvents.eq_withOutside_of_hung {s t : State} {op : BusOp} (h : FollowsByEvents s t)
    (hp : s.phase = .bus op .xfer) (ha : s.answers = []) : t = s.withOutside t := by
  obtain ⟨u, k, rfl | ⟨hb, -⟩, ht⟩ := h
  · rwa [advances_hung hp ha] at ht
  · rw [busy_eq_false_iff, hp] at hb
    cases hb

/-! ### Reset (70_reset_and_hazards.md R200 to R203) -/

theorem powerOn_atReset (p : Params) (c : Bool) : (State.powerOn p c).AtReset where
  kind_ok := rfl
  not_busy := rfl
  crc_ok := rfl
  no_warning := rfl
  deasserted := rfl
  xfer_code := rfl
  result_data := rfl
  raw_angle := rfl
  frame_fields := rfl
  frame_word := show (⟨0, 0, 0, 0, 0⟩ : Frame).word = 0 by decide
  crc_acc := rfl
  phase_idle := rfl

theorem applyReset_atReset (s : State) : (applyReset s).AtReset :=
  { powerOn_atReset s.params s.cfgCrcEn with }

theorem inFlight_eq_true_iff {s : State} : s.inFlight = true ↔ ∃ op, s.phase = .bus op .xfer := by
  cases hp : s.phase with
  | idle | decode | post => simp [State.inFlight, hp]
  | bus op point => cases point <;> simp [State.inFlight, hp]

/-- Settles O17: the events of a step leave CRC_EN alone. -/
theorem crcEnLoadedOnlyAtReset : Obligations.CrcEnLoadedOnlyAtReset := by
  refine fun s t h => ⟨fun rest hin => ?_, fun hreset => (step_followsByEvents h hreset).crcEn_eq, fun b rest hin => ?_⟩
  · rw [step_reset hin] at h; cases h; rfl
  · rw [step_pin hin] at h; cases h; rfl

/-- Settles O30. -/
theorem onlyResetEndsHang : Obligations.OnlyResetEndsHang := by
  refine fun s t op hp ha h => ⟨fun hreset => ?_, fun rest hin => ?_⟩
  · exact (step_followsByEvents h hreset).eq_withOutside_of_hung hp ha
  · rw [step_reset hin] at h
    cases h
    have hr := applyReset_atReset (s.awaiting rest)
    exact ⟨hr.not_busy, hr.deasserted⟩

/-- Settles O15. -/
theorem resetValues : Obligations.ResetValues :=
  ⟨fun p c => ⟨powerOn_atReset p c, rfl⟩,
    fun s rest hin => ⟨applyReset (s.awaiting rest), step_reset hin, applyReset_atReset _, rfl⟩⟩

/-- Settles O16: one answer is discarded exactly when a transfer is in flight. -/
theorem resetCutsOperation : Obligations.ResetCutsOperation := by
  refine fun s rest hin => ⟨if s.inFlight then s.answers.tail else s.answers, fun hx => ?_, fun hx => ?_, step_reset hin⟩
  · rw [if_pos (inFlight_eq_true_iff.mpr hx), List.drop_one]
  · exact if_neg fun hfl => (inFlight_eq_true_iff.mp hfl).elim hx

/-! ### The one refusal (70_reset_and_hazards.md R210; log 9) -/

theorem requestLine_refused {w : Word} {s : State} {r : Refusal} (h : requestLine w s = .refused r) :
    r = .reqWhileBusy ∧ s.busy = true := by
  cases hb : s.busy with
  | true => rw [requestLine_busy hb] at h; cases h; exact ⟨rfl, rfl⟩
  | false => rw [requestLine_idle hb, eventsReachOperationOutcome] at h; cases h

theorem issueLine_refused {w : Word} {s : State} {r : Refusal} (h : issueLine w s = .refused r) :
    r = .reqWhileBusy ∧ s.busy = true := by
  cases hb : s.busy with
  | true => rw [issueLine_busy hb] at h; cases h; exact ⟨rfl, rfl⟩
  | false => rw [issueLine_idle hb] at h; cases h

theorem hostRead_ne_refused (idx : Nat) (s : State) (r : Refusal) : hostRead idx s ≠ .refused r := by
  unfold hostRead
  split <;> nofun

/-- Settles O10, act by act. -/
theorem onlyBusyRequestLinesRefused : Obligations.OnlyBusyRequestLinesRefused := by
  intro s r h
  cases hin : s.inputs with
  | nil => rw [step_none hin] at h; cases h
  | cons i rest =>
    cases i with
    | request w =>
      obtain ⟨hr, hb⟩ := requestLine_refused (s := s.awaiting rest) (step_request hin ▸ h)
      exact ⟨hr, hb, w, rest, .inl rfl⟩
    | issue w =>
      obtain ⟨hr, hb⟩ := issueLine_refused (s := s.awaiting rest) (step_issue hin ▸ h)
      exact ⟨hr, hb, w, rest, .inr rfl⟩
    | read idx => exact absurd (step_read hin ▸ h) (hostRead_ne_refused idx (s.awaiting rest) r)
    | write idx v => rw [step_write hin] at h; cases h
    | event => rw [step_event hin] at h; cases h
    | wait => rw [step_wait hin] at h; cases h
    | reset => rw [step_reset hin] at h; cases h
    | pin b => rw [step_pin hin] at h; cases h

/-- Settles O9. -/
theorem busyRequestLineRefused : Obligations.BusyRequestLineRefused := by
  refine fun s w rest hb => ⟨fun hin => ?_, fun hin => ?_, fun hin => ?_⟩
  · exact (step_write hin).trans (congrArg _ (hostWrite_req_busy (s := s.awaiting rest) hb))
  · exact (step_request hin).trans (requestLine_busy (s := s.awaiting rest) hb)
  · exact (step_issue hin).trans (issueLine_busy (s := s.awaiting rest) hb)

end Sys2Proof.Machine
